-- ==== Sys2Proof/Word.lean ====
section
/-! DEFINITION. The widths of the block (00_scope.md R5): every access moves one byte, a coprocessor
address has 16 bits, a port number 8, a primary-CPU address 24. -/

namespace Sys2Proof

/-- The data of one transaction: 8 bits (R5, R51). -/
abbrev Byte := BitVec 8

/-- A coprocessor memory address: 16 bits (R5). -/
abbrev Addr := BitVec 16

/-- A port number: 8 bits (R5). -/
abbrev Port := BitVec 8

/-- An address of the primary CPU's space: 24 bits (R5, R26). -/
abbrev PAddr := BitVec 24

/-- A transaction word: `TW` of 30_encoding.md R81 in bits 20 to 0, bits 23 to 21 zero, and the data
byte of a write in bits 31 to 24. DESIGN CHOICE, safe: `TW` is the spec's own packing and has no place
for the data byte (log 11). -/
abbrev TxnWord := BitVec 32

end Sys2Proof
end

