-- ==== Sys2Proof/Syntax.lean ====
section
/-! DEFINITION. The operations of the block: one constructor of `Instr` per row of opcode_table.json,
with the operands the row's rule gives it (the whole address or port, and the data byte of a write,
so that no bit of the transaction is lost). The last seven are the INTERNAL rows, which no transaction
word selects (30_encoding.md R91). `Transaction` is the record of R80: the four entry points. -/

namespace Sys2Proof

/-- One operation of opcode_table.json. -/
inductive Instr where
  /-- `MR.RAM` (R111): read a byte of local RAM. -/
  | mrRam (a : Addr)
  /-- `MW.RAM` (R112): write a byte of local RAM. -/
  | mwRam (a : Addr) (d : Byte)
  /-- `MR.SND` (R113): read the sound chip. -/
  | mrSnd (a : Addr)
  /-- `MW.SND` (R114): write the sound chip. -/
  | mwSnd (a : Addr) (d : Byte)
  /-- `MR.VID` (R115): read through the video window. -/
  | mrVid (a : Addr)
  /-- `MW.VID` (R116): write through the video window. -/
  | mwVid (a : Addr) (d : Byte)
  /-- `MW.BSEL` (R117): the bank-select write. -/
  | mwBsel (a : Addr) (d : Byte)
  /-- `MR.CUNUSED` (R118): read an unused Region C address. -/
  | mrCunused (a : Addr)
  /-- `MW.CUNUSED` (R119): write an unused Region C address. -/
  | mwCunused (a : Addr) (d : Byte)
  /-- `MR.BANK` (R120): read through the banked window. -/
  | mrBank (a : Addr)
  /-- `MW.BANK` (R121): write through the banked window. -/
  | mwBank (a : Addr) (d : Byte)
  /-- `PR.VDATA` (R157): read the video data port. -/
  | prVdata (p : Port)
  /-- `PW.VDATA` (R158): write the video data port. -/
  | pwVdata (p : Port) (d : Byte)
  /-- `PR.VCTRL` (R162): read the video control port. -/
  | prVctrl (p : Port)
  /-- `PW.VCTRL` (R164): write the video control port. -/
  | pwVctrl (p : Port) (d : Byte)
  /-- `PW.SGEN` (R159): write the sound generator. -/
  | pwSgen (p : Port) (d : Byte)
  /-- `PR.HV` (R160): read a byte of the H-V counter. -/
  | prHv (p : Port)
  /-- `PW.0.PER` (R176): PrimaryConsoleMode, write: the peripheral controller. -/
  | pw0Per (p : Port) (d : Byte)
  /-- `PR.0.B00` (R177): PrimaryConsoleMode, read: unused port of bucket B00. -/
  | pr0B00 (p : Port)
  /-- `PR.0.HV` (R178): PrimaryConsoleMode, read: H-V counter, 15 cycles in the past. -/
  | pr0Hv (p : Port)
  /-- `PR.0.FM` (R180): PrimaryConsoleMode, read: the FM chip. -/
  | pr0Fm (p : Port)
  /-- `PW.0.FM` (R181): PrimaryConsoleMode, write: the FM chip. -/
  | pw0Fm (p : Port) (d : Byte)
  /-- `PR.0.DEF` (R182): PrimaryConsoleMode, read: unused port of the default bucket. -/
  | pr0Def (p : Port)
  /-- `PW.0.DEF` (R183): PrimaryConsoleMode, write: unused port of the default bucket. -/
  | pw0Def (p : Port) (d : Byte)
  /-- `PR.1.HIO` (R190): HandheldMode, read: the handheld I/O chip. -/
  | pr1Hio (p : Port)
  /-- `PW.1.HIO` (R191): HandheldMode, write: the handheld I/O chip. -/
  | pw1Hio (p : Port) (d : Byte)
  /-- `PR.1.PER3E` (R192): HandheldMode, read: ports 0x3E and 0x3F. -/
  | pr1Per3E (p : Port)
  /-- `PW.1.PER3E` (R193): HandheldMode, write: ports 0x3E and 0x3F. -/
  | pw1Per3E (p : Port) (d : Byte)
  /-- `PR.1.B00` (R194): HandheldMode, read: unused port of bucket B00. -/
  | pr1B00 (p : Port)
  /-- `PW.1.B00` (R195): HandheldMode, write: unused port of bucket B00. -/
  | pw1B00 (p : Port) (d : Byte)
  /-- `PR.1.DEF` (R196): HandheldMode, read: unused port of the default bucket. -/
  | pr1Def (p : Port)
  /-- `PW.1.DEF` (R197): HandheldMode, write: unused port of the default bucket. -/
  | pw1Def (p : Port) (d : Byte)
  /-- `PW.2.PER` (R205): StandardConsoleMode, write: the peripheral controller. -/
  | pw2Per (p : Port) (d : Byte)
  /-- `PW.2.B00` (R206): StandardConsoleMode, write: unused port of bucket B00. -/
  | pw2B00 (p : Port) (d : Byte)
  /-- `PR.2.B00` (R207): StandardConsoleMode, read: unused port of bucket B00. -/
  | pr2B00 (p : Port)
  /-- `PR.2.TFM` (R209): StandardConsoleMode, read: territory T's FM chip. -/
  | pr2Tfm (p : Port)
  /-- `PW.2.TFM` (R210): StandardConsoleMode, write: territory T's FM chip. -/
  | pw2Tfm (p : Port) (d : Byte)
  /-- `PW.2.ACTL` (R211): StandardConsoleMode, write: territory T's audio control. -/
  | pw2Actl (p : Port) (d : Byte)
  /-- `PR.2.XFM` (R212): StandardConsoleMode, read: the external FM board. -/
  | pr2Xfm (p : Port)
  /-- `PW.2.XFM` (R213): StandardConsoleMode, write: the external FM board. -/
  | pw2Xfm (p : Port) (d : Byte)
  /-- `PR.2.PERG` (R216): StandardConsoleMode, read: the gated peripheral-controller read. -/
  | pr2Perg (p : Port)
  /-- `PR.2.DEF` (R217): StandardConsoleMode, read: unused port of the default bucket. -/
  | pr2Def (p : Port)
  /-- `PW.2.DEF` (R218): StandardConsoleMode, write: unused port of the default bucket. -/
  | pw2Def (p : Port) (d : Byte)
  /-- `PR.3.B00` (R231): LegacyConsoleMode, read: unused port of bucket B00. -/
  | pr3B00 (p : Port)
  /-- `PW.3.B00` (R232): LegacyConsoleMode, write: unused port of bucket B00. -/
  | pw3B00 (p : Port) (d : Byte)
  /-- `PR.3.FM` (R234): LegacyConsoleMode, read: the FM chip. -/
  | pr3Fm (p : Port)
  /-- `PW.3.FM` (R235): LegacyConsoleMode, write: the FM chip. -/
  | pw3Fm (p : Port) (d : Byte)
  /-- `PR.3.DEF` (R236): LegacyConsoleMode, read: unused port of the default bucket. -/
  | pr3Def (p : Port)
  /-- `PW.3.DEF` (R237): LegacyConsoleMode, write: unused port of the default bucket. -/
  | pw3Def (p : Port) (d : Byte)
  /-- `PR.3.PER` (R238): LegacyConsoleMode, read: the peripheral controller. -/
  | pr3Per (p : Port)
  /-- `PW.3.PER` (R239): LegacyConsoleMode, write: the peripheral controller. -/
  | pw3Per (p : Port) (d : Byte)
  /-- `PR.4.B00` (R246): FirstGenMode, read: unused port of bucket B00. -/
  | pr4B00 (p : Port)
  /-- `PW.4.B00` (R248): FirstGenMode, write: unused port of bucket B00. -/
  | pw4B00 (p : Port) (d : Byte)
  /-- `PR.4.B40` (R249): FirstGenMode, read: unused port of bucket B40. -/
  | pr4B40 (p : Port)
  /-- `PW.4.SGEN` (R247): FirstGenMode, write: the sound generator with its stall. -/
  | pw4Sgen (p : Port) (d : Byte)
  /-- `PR.4.VCTRL` (R252): FirstGenMode, read: the older video control port. -/
  | pr4Vctrl (p : Port)
  /-- `PW.4.VCTRL` (R253): FirstGenMode, write: the older video control port. -/
  | pw4Vctrl (p : Port) (d : Byte)
  /-- `PR.4.PER` (R250): FirstGenMode, read: the peripheral controller. -/
  | pr4Per (p : Port)
  /-- `PW.4.DEF` (R251): FirstGenMode, write: unused port of the default bucket. -/
  | pw4Def (p : Port) (d : Byte)
  /-- `ARB` (R141): one run of the Bus Arbitration Unit. -/
  | arb
  /-- `UMR` (R261): unused memory read. -/
  | umr (ea : PAddr)
  /-- `UMW` (R262): unused memory write. -/
  | umw (ea : PAddr) (d : Byte)
  /-- `LKR` (R263): lockup read. -/
  | lkr (ea : PAddr)
  /-- `LKW` (R264): lockup write. -/
  | lkw (ea : PAddr) (d : Byte)
  /-- `UPR` (R265): unused port read. -/
  | upr (p : Port)
  /-- `UPW` (R267): unused port write. -/
  | upw (p : Port) (d : Byte)
deriving DecidableEq, Repr

/-- A transaction (30_encoding.md R80): the four entry points `MR`, `MW`, `PR`, `PW`. The port operand
is what the caller supplies, 16 bits wide; only its low 8 bits are the port number (R168). -/
inductive Transaction where
  | mr (a : Addr)
  | mw (a : Addr) (d : Byte)
  | pr (port : BitVec 16)
  | pw (port : BitVec 16) (d : Byte)
deriving DecidableEq, Repr

end Sys2Proof
end

