-- ==== Sys2Proof/Config.lean ====
section
/-! DEFINITION. What the session fixes (`Cfg`, 00_scope.md R6; `Prm`, R7), the calls the block makes to
its collaborators (R10), and the free values: the draws and parameters the spec does not give, as
constants without a body (the collaborators' answers, which depend on the state, are in Machine/Oracle). -/

namespace Sys2Proof

/-- The hardware variant (10_state.md R27), V0 to V4 in this order. -/
inductive Variant where
  | primary
  | handheld
  | standard
  | legacy
  | firstGen
deriving DecidableEq, Repr

/-- The session configuration `CFG` (00_scope.md R6). The width of `amplifierLevel` is not given; it is
passed on unread (R29), so it is a natural number here. -/
structure Cfg where
  variant : Variant
  regionIsT : Bool
  fmEnabled : Bool
  amplifierLevel : Nat
  forceNoLockup : Bool
  handheldHwSelected : Bool
  openBusFamily : Bool
deriving DecidableEq, Repr

/-- `HANDHELD_3E3F_READ` (R7, R192): what a HandheldMode read of port 0x3E or 0x3F does. -/
inductive HandheldRead where
  | peripheral
  | unused
deriving DecidableEq, Repr

/-- Which function `BSHIFT` is (R7, R117): the family's serial shift, or any other function, kept as
the external constant `Config.bshiftHigh` (log 10). -/
inductive ShiftLogic where
  | serial
  | external
deriving DecidableEq, Repr

/-- The parameter record `PRM` (00_scope.md R7). `WAITCHARGE` is no field: the literal formula is its
only sanctioned value (41_arbitration.md R142, D9). -/
structure Prm where
  vselByte : Byte
  bselByte : Byte
  vidBtIndex : Byte
  owedBit : Nat
  runWidth : Nat
  ofsPrimary : Int
  ofsHandheld : Int
  ofsStandard : Int
  ofsLegacy : Int
  tFmPorts : List Port
  audioctlPort : Port
  stdFmGateBit : Fin 8
  ssrGateBit : Fin 8
  ssrGateAllow : Bool
  legFmGateBit : Fin 8
  legMuteBit : Fin 8
  muteOnMask : Byte
  handheld3E3FRead : HandheldRead
  bshift : ShiftLogic
deriving DecidableEq, Repr

/-- The constraints R7 puts on the parameters (those on the bit numbers 0..7 are in the types). -/
abbrev Prm.Admissible (q : Prm) : Prop :=
  (0x60 ≤ q.vselByte.toNat ∧ q.vselByte.toNat ≤ 0x7F) ∧
  (0x60 ≤ q.bselByte.toNat ∧ q.bselByte.toNat ≤ 0x7F) ∧
  q.vselByte ≠ q.bselByte ∧
  q.owedBit ≠ 0 ∧ q.owedBit < q.runWidth ∧
  q.ofsHandheld ≠ q.ofsPrimary ∧
  (∀ p ∈ q.tFmPorts, 0xC0 ≤ p.toNat ∧ p ≠ q.audioctlPort) ∧
  q.audioctlPort = 0xF2#8 ∧
  q.legMuteBit ≠ q.legFmGateBit

/-- The delegates that are collaborators (10_state.md R26): the video device seen from the shared bus,
or any other. -/
inductive BusDevice where
  | video
  | ext (id : Nat)
deriving DecidableEq, Repr

/-- A call to a collaborator, with its arguments (00_scope.md R10), all those R10 lists. `hv` takes an
integer, since PrimaryConsoleMode passes `CCYC - 15` (R178, D19). -/
inductive Call where
  | sndRead (cycle : Nat) (reg : BitVec 2)
  | sndWrite (cycle : Nat) (reg : BitVec 2) (v : Byte)
  | fmRead (cycle : Nat) (reg : BitVec 2)
  | fmWrite (cycle : Nat) (reg : BitVec 2) (v : Byte)
  | sgenWrite (cycle : Nat) (v : Byte)
  | sgenConfig (cycle : Nat) (amplifierLevel : Nat) (muteMask : Byte)
  | vidDataRead
  | vidDataWrite (v : Byte)
  | vidCtrlRead
  | vidCtrlWrite (v : Byte)
  | vidCtrlReadOld
  | vidCtrlWriteOld (v : Byte)
  | vidHv (cycle : Int)
  | perRead (parity : BitVec 1)
  | perWrite (parity : BitVec 1) (v : Byte) (offset : Int)
  | hioRead (p : Port)
  | hioWrite (p : Port) (v : Byte)
  | busRead (dev : BusDevice) (addr : PAddr)
  | busWrite (dev : BusDevice) (addr : PAddr) (v : Byte)
  | copPc
  | copPeek (addr : Addr)
  | bshift (bank : PAddr) (v : Byte)
deriving DecidableEq, Repr

/-! ### Free values. None has a body: no proof can see what it is. -/

/-- FREE VALUE, safe (log 5): a RAM byte nothing has written since the draw `draw` (R38, U2). -/
opaque Config.ramDrawn (draw : Nat) (offset : Nat) : Byte

/-- FREE VALUE, safe (log 5): a byte of a Direct buffer nothing has written since the draw (U2). -/
opaque Config.bufDrawn (draw : Nat) (key : Nat) : Byte

/-- FREE VALUE, safe (log 10): the 9 high bits an external `BSHIFT` answers (R117, D4, U5); its low 15
bits are zero, which R117 requires of every `BSHIFT`. -/
opaque Config.bshiftHigh (bank : PAddr) (v : Byte) : BitVec 9

/-- FREE VALUE, safe (log 4): `OFS_PRIMARY`, open in R7. -/
opaque Config.ofsPrimary : Int

/-- FREE VALUE, safe (log 4): `OFS_STANDARD`, open in R7. -/
opaque Config.ofsStandard : Int

/-- FREE VALUE, safe (log 4): `OFS_LEGACY`, open in R7. -/
opaque Config.ofsLegacy : Int

/-- FREE VALUE, safe (log 4): the sign of the difference between `OFS_HANDHELD` and `OFS_PRIMARY`. -/
opaque Config.ofsHandheldLater : Bool

/-- FREE VALUE, safe (log 4): how much that difference exceeds 1. -/
opaque Config.ofsHandheldGap : Nat

/-- `OFS_HANDHELD`: any number but `OFS_PRIMARY` ("different timing offset", R7). -/
def Config.ofsHandheld : Int :=
  if Config.ofsHandheldLater then Config.ofsPrimary + (Config.ofsHandheldGap + 1)
  else Config.ofsPrimary - (Config.ofsHandheldGap + 1)

/-- The default column of R7. PRESUMED, unsafe (log 6): values of the hardware family, which no
statement may take for the hardware's; the four offsets have no default and stay free (log 4). -/
def Prm.defaults : Prm where
  vselByte := 0x7F#8
  bselByte := 0x60#8
  vidBtIndex := 0xC0#8
  owedBit := 2
  runWidth := 8
  ofsPrimary := Config.ofsPrimary
  ofsHandheld := Config.ofsHandheld
  ofsStandard := Config.ofsStandard
  ofsLegacy := Config.ofsLegacy
  tFmPorts := [0xF0#8, 0xF1#8]
  audioctlPort := 0xF2#8
  stdFmGateBit := 2
  ssrGateBit := 2
  ssrGateAllow := false
  legFmGateBit := 2
  legMuteBit := 1
  muteOnMask := 0xFF#8
  handheld3E3FRead := .peripheral
  bshift := .serial

/-- The configuration of `State.reset`. DESIGN CHOICE, unsafe (log 9): the host supplies CFG (R38). -/
def Cfg.launch : Cfg where
  variant := .primary
  regionIsT := false
  fmEnabled := true
  amplifierLevel := 0
  forceNoLockup := false
  handheldHwSelected := false
  openBusFamily := false

/-- What the decode reads beside the word: `(CFG, PRM, SSR)` (30_encoding.md R92). -/
structure Ctx where
  cfg : Cfg
  prm : Prm
  ssr : Byte
deriving DecidableEq, Repr

/-- The decode context of `State.reset`. -/
def Ctx.launch : Ctx where
  cfg := Cfg.launch
  prm := Prm.defaults
  ssr := 0x00#8

end Sys2Proof
end

