-- ==== Sys2Proof/WellFormed.lean ====
section
/-! DEFINITION. When an operation is the one a transaction of the session selects: the "Operands" and
"Encoding" lines of each rule, written from the rule files and apart from the decoder. The seven
INTERNAL operations are never well-formed as transactions (30_encoding.md R91). -/

namespace Sys2Proof

/-- The operands `i` carries are ones its rule gives it under `(CFG, PRM, SSR)`. -/
def WellFormed (c : Ctx) (i : Instr) : Bool :=
  match i with
  -- R111
  | .mrRam a => decide (a.extractLsb' 14 2 = 0b00#2)
  -- R112
  | .mwRam a _ => decide (a.extractLsb' 14 2 = 0b00#2)
  -- R113
  | .mrSnd a => decide (a.extractLsb' 13 3 = 0b010#3)
  -- R114
  | .mwSnd a _ => decide (a.extractLsb' 13 3 = 0b010#3)
  -- R115
  | .mrVid a => decide (a.extractLsb' 8 8 = c.prm.vselByte)
  -- R116
  | .mwVid a _ => decide (a.extractLsb' 8 8 = c.prm.vselByte)
  -- R117
  | .mwBsel a _ => decide (a.extractLsb' 8 8 = c.prm.bselByte)
  -- R118
  | .mrCunused a => decide (a.extractLsb' 13 3 = 0b011#3 ∧ a.extractLsb' 8 8 ≠ c.prm.vselByte)
  -- R119
  | .mwCunused a _ =>
      decide (a.extractLsb' 13 3 = 0b011#3 ∧ a.extractLsb' 8 8 ≠ c.prm.vselByte ∧
        a.extractLsb' 8 8 ≠ c.prm.bselByte)
  -- R120
  | .mrBank a => decide (a.getLsbD 15 = true)
  -- R121
  | .mwBank a _ => decide (a.getLsbD 15 = true)
  -- R157
  | .prVdata p => decide (p &&& 0xC1#8 = 0x80#8)
  -- R158
  | .pwVdata p _ => decide (p &&& 0xC1#8 = 0x80#8)
  -- R162
  | .prVctrl p => decide (p &&& 0xC1#8 = 0x81#8 ∧ c.cfg.variant ≠ .firstGen)
  -- R164
  | .pwVctrl p _ => decide (p &&& 0xC1#8 = 0x81#8 ∧ c.cfg.variant ≠ .firstGen)
  -- R159
  | .pwSgen p _ => decide (p &&& 0xC0#8 = 0x40#8 ∧ c.cfg.variant ≠ .firstGen)
  -- R160
  | .prHv p => decide (p &&& 0xC0#8 = 0x40#8 ∧ c.cfg.variant ≠ .primary ∧ c.cfg.variant ≠ .firstGen)
  -- R176
  | .pw0Per p _ => decide (c.cfg.variant = .primary ∧ p &&& 0xC0#8 = 0x00#8)
  -- R177
  | .pr0B00 p => decide (c.cfg.variant = .primary ∧ p &&& 0xC0#8 = 0x00#8)
  -- R178
  | .pr0Hv p => decide (c.cfg.variant = .primary ∧ p &&& 0xC0#8 = 0x40#8)
  -- R180
  | .pr0Fm p => decide (c.cfg.variant = .primary ∧ p &&& 0xF0#8 = 0xF0#8 ∧ c.cfg.fmEnabled = true)
  -- R181
  | .pw0Fm p _ => decide (c.cfg.variant = .primary ∧ p &&& 0xF0#8 = 0xF0#8 ∧ c.cfg.fmEnabled = true)
  -- R182
  | .pr0Def p =>
      decide (c.cfg.variant = .primary ∧ p &&& 0xC0#8 = 0xC0#8 ∧ ¬ (0xF0 ≤ p.toNat ∧
        c.cfg.fmEnabled = true))
  -- R183
  | .pw0Def p _ =>
      decide (c.cfg.variant = .primary ∧ p &&& 0xC0#8 = 0xC0#8 ∧ ¬ (0xF0 ≤ p.toNat ∧
        c.cfg.fmEnabled = true))
  -- R190
  | .pr1Hio p =>
      decide (c.cfg.variant = .handheld ∧ p &&& 0xC0#8 = 0x00#8 ∧ p.toNat < 0x07 ∧
        c.cfg.handheldHwSelected = true)
  -- R191
  | .pw1Hio p _ =>
      decide (c.cfg.variant = .handheld ∧ p &&& 0xC0#8 = 0x00#8 ∧ p.toNat < 0x07 ∧
        c.cfg.handheldHwSelected = true)
  -- R192
  | .pr1Per3E p => decide (c.cfg.variant = .handheld ∧ p &&& 0xFE#8 = 0x3E#8)
  -- R193
  | .pw1Per3E p _ => decide (c.cfg.variant = .handheld ∧ p &&& 0xFE#8 = 0x3E#8)
  -- R194
  | .pr1B00 p =>
      decide (c.cfg.variant = .handheld ∧ p &&& 0xC0#8 = 0x00#8 ∧ ¬ (p = 0x3E#8 ∨ p = 0x3F#8) ∧
        ¬ (p.toNat < 0x07 ∧ c.cfg.handheldHwSelected = true))
  -- R195
  | .pw1B00 p _ =>
      decide (c.cfg.variant = .handheld ∧ p &&& 0xC0#8 = 0x00#8 ∧ ¬ (p = 0x3E#8 ∨ p = 0x3F#8) ∧
        ¬ (p.toNat < 0x07 ∧ c.cfg.handheldHwSelected = true))
  -- R196
  | .pr1Def p => decide (c.cfg.variant = .handheld ∧ p &&& 0xC0#8 = 0xC0#8)
  -- R197
  | .pw1Def p _ => decide (c.cfg.variant = .handheld ∧ p &&& 0xC0#8 = 0xC0#8)
  -- R205
  | .pw2Per p _ =>
      decide (c.cfg.variant = .standard ∧ p &&& 0xC0#8 = 0x00#8 ∧
        (c.cfg.regionIsT = false ∨ p = 0x3E#8 ∨ p = 0x3F#8))
  -- R206
  | .pw2B00 p _ =>
      decide (c.cfg.variant = .standard ∧ p &&& 0xC0#8 = 0x00#8 ∧ c.cfg.regionIsT = true ∧
        ¬ (p = 0x3E#8 ∨ p = 0x3F#8))
  -- R207
  | .pr2B00 p => decide (c.cfg.variant = .standard ∧ p &&& 0xC0#8 = 0x00#8)
  -- R209
  | .pr2Tfm p =>
      decide (c.cfg.variant = .standard ∧ p &&& 0xC0#8 = 0xC0#8 ∧ c.cfg.fmEnabled = true ∧
        c.cfg.regionIsT = true ∧ p ∈ c.prm.tFmPorts)
  -- R210
  | .pw2Tfm p _ =>
      decide (c.cfg.variant = .standard ∧ p &&& 0xC0#8 = 0xC0#8 ∧ c.cfg.fmEnabled = true ∧
        c.cfg.regionIsT = true ∧ p ∈ c.prm.tFmPorts)
  -- R211
  | .pw2Actl p _ =>
      decide (c.cfg.variant = .standard ∧ c.cfg.fmEnabled = true ∧ c.cfg.regionIsT = true ∧
        p = c.prm.audioctlPort)
  -- R212
  | .pr2Xfm p =>
      decide (c.cfg.variant = .standard ∧ p &&& 0xC0#8 = 0xC0#8 ∧ c.cfg.fmEnabled = true ∧
        c.cfg.regionIsT = false ∧ p.getLsbD c.prm.stdFmGateBit = false)
  -- R213
  | .pw2Xfm p _ =>
      decide (c.cfg.variant = .standard ∧ p &&& 0xC0#8 = 0xC0#8 ∧ c.cfg.fmEnabled = true ∧
        c.cfg.regionIsT = false ∧ p.getLsbD c.prm.stdFmGateBit = false)
  -- R216
  | .pr2Perg p =>
      decide (c.cfg.variant = .standard ∧ p &&& 0xC0#8 = 0xC0#8 ∧ c.cfg.fmEnabled = true ∧
        c.cfg.regionIsT = false ∧ p.getLsbD c.prm.stdFmGateBit = true ∧
        c.ssr.getLsbD c.prm.ssrGateBit = c.prm.ssrGateAllow)
  -- R217
  | .pr2Def p =>
      decide (c.cfg.variant = .standard ∧ p &&& 0xC0#8 = 0xC0#8 ∧ ¬ (c.cfg.fmEnabled = true ∧
        c.cfg.regionIsT = true ∧ p ∈ c.prm.tFmPorts) ∧ ¬ (c.cfg.fmEnabled = true ∧
        c.cfg.regionIsT = false ∧ p.getLsbD c.prm.stdFmGateBit = false) ∧ ¬ (c.cfg.fmEnabled = true ∧
        c.cfg.regionIsT = false ∧ p.getLsbD c.prm.stdFmGateBit = true ∧
        c.ssr.getLsbD c.prm.ssrGateBit = c.prm.ssrGateAllow))
  -- R218
  | .pw2Def p _ =>
      decide (c.cfg.variant = .standard ∧ p &&& 0xC0#8 = 0xC0#8 ∧ ¬ (c.cfg.fmEnabled = true ∧
        c.cfg.regionIsT = true ∧ p ∈ c.prm.tFmPorts) ∧ ¬ (c.cfg.fmEnabled = true ∧
        c.cfg.regionIsT = true ∧ p = c.prm.audioctlPort) ∧ ¬ (c.cfg.fmEnabled = true ∧
        c.cfg.regionIsT = false ∧ p.getLsbD c.prm.stdFmGateBit = false))
  -- R231
  | .pr3B00 p => decide (c.cfg.variant = .legacy ∧ p &&& 0xC0#8 = 0x00#8)
  -- R232
  | .pw3B00 p _ => decide (c.cfg.variant = .legacy ∧ p &&& 0xC0#8 = 0x00#8)
  -- R234
  | .pr3Fm p =>
      decide (c.cfg.variant = .legacy ∧ p &&& 0xC0#8 = 0xC0#8 ∧ c.cfg.fmEnabled = true ∧
        p.getLsbD c.prm.legFmGateBit = false)
  -- R235
  | .pw3Fm p _ =>
      decide (c.cfg.variant = .legacy ∧ p &&& 0xC0#8 = 0xC0#8 ∧ c.cfg.fmEnabled = true ∧
        p.getLsbD c.prm.legFmGateBit = false)
  -- R236
  | .pr3Def p =>
      decide (c.cfg.variant = .legacy ∧ p &&& 0xC0#8 = 0xC0#8 ∧ c.cfg.fmEnabled = true ∧
        p.getLsbD c.prm.legFmGateBit = true)
  -- R237
  | .pw3Def p _ =>
      decide (c.cfg.variant = .legacy ∧ p &&& 0xC0#8 = 0xC0#8 ∧ c.cfg.fmEnabled = true ∧
        p.getLsbD c.prm.legFmGateBit = true)
  -- R238
  | .pr3Per p => decide (c.cfg.variant = .legacy ∧ p &&& 0xC0#8 = 0xC0#8 ∧ c.cfg.fmEnabled = false)
  -- R239
  | .pw3Per p _ => decide (c.cfg.variant = .legacy ∧ p &&& 0xC0#8 = 0xC0#8 ∧ c.cfg.fmEnabled = false)
  -- R246
  | .pr4B00 p => decide (c.cfg.variant = .firstGen ∧ p &&& 0xC0#8 = 0x00#8)
  -- R248
  | .pw4B00 p _ => decide (c.cfg.variant = .firstGen ∧ p &&& 0xC0#8 = 0x00#8)
  -- R249
  | .pr4B40 p => decide (c.cfg.variant = .firstGen ∧ p &&& 0xC0#8 = 0x40#8)
  -- R247
  | .pw4Sgen p _ => decide (c.cfg.variant = .firstGen ∧ p &&& 0xC0#8 = 0x40#8)
  -- R252
  | .pr4Vctrl p => decide (c.cfg.variant = .firstGen ∧ p &&& 0xC1#8 = 0x81#8)
  -- R253
  | .pw4Vctrl p _ => decide (c.cfg.variant = .firstGen ∧ p &&& 0xC1#8 = 0x81#8)
  -- R250
  | .pr4Per p => decide (c.cfg.variant = .firstGen ∧ p &&& 0xC0#8 = 0xC0#8)
  -- R251
  | .pw4Def p _ => decide (c.cfg.variant = .firstGen ∧ p &&& 0xC0#8 = 0xC0#8)
  -- R141
  | .arb => decide (False)
  -- R261
  | .umr _ => decide (False)
  -- R262
  | .umw _ _ => decide (False)
  -- R263
  | .lkr _ => decide (False)
  -- R264
  | .lkw _ _ => decide (False)
  -- R265
  | .upr _ => decide (False)
  -- R267
  | .upw _ _ => decide (False)

end Sys2Proof
end

