-- ==== Sys2Proof/Decode.lean ====
section
/-! DEFINITION. From a transaction word to an operation and back. The fields (30_encoding.md R82, R84),
the memory decode (R83), the five port tables (R85, R86 and the variant files), the packing of R81, the
bytes of a word, the encoder, and opcode_table.json as data (R91) to hold the decoder against. -/

namespace Sys2Proof

/-! ### Fields -/

/-- The octant `a[15:13]` (R82). -/
def octant (a : Addr) : BitVec 3 := a.extractLsb' 13 3

/-- The page byte `a[15:8]` (R82). -/
def pageByte (a : Addr) : Byte := a.extractLsb' 8 8

/-- The bucket key `p & 0xC1` (R84, R156). -/
def bucketKey (p : Port) : Port := p &&& 0xC1#8

/-- The five buckets of R85. -/
inductive Bucket where
  | b00
  | b40
  | vdata
  | vctrl
  | dflt
deriving DecidableEq, Repr

/-- The bucket of a port (R85): the mask selects the bucket and nothing else does (R156). -/
def bucket (p : Port) : Bucket :=
  if bucketKey p = 0x00#8 ∨ bucketKey p = 0x01#8 then .b00
  else if bucketKey p = 0x40#8 ∨ bucketKey p = 0x41#8 then .b40
  else if bucketKey p = 0x80#8 then .vdata
  else if bucketKey p = 0x81#8 then .vctrl
  else .dflt

/-- The number of a variant in `TW[20:18]` (R81). -/
def variantCode (v : Variant) : BitVec 3 :=
  match v with
  | .primary => 0#3
  | .handheld => 1#3
  | .standard => 2#3
  | .legacy => 3#3
  | .firstGen => 4#3

/-- The variant a code names; codes 5 to 7 do not exist (R81, U19). -/
def variantOfCode (n : BitVec 3) : Option Variant :=
  if n = 0#3 then some .primary
  else if n = 1#3 then some .handheld
  else if n = 2#3 then some .standard
  else if n = 3#3 then some .legacy
  else if n = 4#3 then some .firstGen
  else none

/-! ### Memory space -/

/-- Memory reads (R83). -/
def selectMemRead (c : Ctx) (a : Addr) : Instr :=
  if octant a = 0#3 ∨ octant a = 1#3 then .mrRam a
  else if octant a = 2#3 then .mrSnd a
  else if octant a = 3#3 then
    if pageByte a = c.prm.vselByte then .mrVid a else .mrCunused a
  else .mrBank a

/-- Memory writes (R83). -/
def selectMemWrite (c : Ctx) (a : Addr) (d : Byte) : Instr :=
  if octant a = 0#3 ∨ octant a = 1#3 then .mwRam a d
  else if octant a = 2#3 then .mwSnd a d
  else if octant a = 3#3 then
    if pageByte a = c.prm.vselByte then .mwVid a d
    else if pageByte a = c.prm.bselByte then .mwBsel a d
    else .mwCunused a d
  else .mwBank a d

/-! ### Port space: five tables, one per variant (R155, R324) -/

/-- PrimaryConsoleMode, reads (43_port_primary.md R175). -/
def primaryRead (c : Ctx) (p : Port) : Instr :=
  match bucket p with
  | .b00 => .pr0B00 p
  | .b40 => .pr0Hv p
  | .vdata => .prVdata p
  | .vctrl => .prVctrl p
  | .dflt => if 0xF0 ≤ p.toNat ∧ c.cfg.fmEnabled then .pr0Fm p else .pr0Def p

/-- PrimaryConsoleMode, writes (R175). -/
def primaryWrite (c : Ctx) (p : Port) (d : Byte) : Instr :=
  match bucket p with
  | .b00 => .pw0Per p d
  | .b40 => .pwSgen p d
  | .vdata => .pwVdata p d
  | .vctrl => .pwVctrl p d
  | .dflt => if 0xF0 ≤ p.toNat ∧ c.cfg.fmEnabled then .pw0Fm p d else .pw0Def p d

/-- HandheldMode, reads (44_port_handheld.md R198). -/
def handheldRead (c : Ctx) (p : Port) : Instr :=
  match bucket p with
  | .b00 =>
    if p = 0x3E#8 ∨ p = 0x3F#8 then .pr1Per3E p
    else if p.toNat < 0x07 ∧ c.cfg.handheldHwSelected then .pr1Hio p
    else .pr1B00 p
  | .b40 => .prHv p
  | .vdata => .prVdata p
  | .vctrl => .prVctrl p
  | .dflt => .pr1Def p

/-- HandheldMode, writes (R198). -/
def handheldWrite (c : Ctx) (p : Port) (d : Byte) : Instr :=
  match bucket p with
  | .b00 =>
    if p = 0x3E#8 ∨ p = 0x3F#8 then .pw1Per3E p d
    else if p.toNat < 0x07 ∧ c.cfg.handheldHwSelected then .pw1Hio p d
    else .pw1B00 p d
  | .b40 => .pwSgen p d
  | .vdata => .pwVdata p d
  | .vctrl => .pwVctrl p d
  | .dflt => .pw1Def p d

/-- StandardConsoleMode's default bucket, reads: the decision list of 45_port_standard.md R208. -/
def standardDefaultRead (c : Ctx) (p : Port) : Instr :=
  if c.cfg.fmEnabled = false then .pr2Def p
  else if c.cfg.regionIsT then
    if p = c.prm.audioctlPort then .pr2Def p
    else if p ∈ c.prm.tFmPorts then .pr2Tfm p
    else .pr2Def p
  else if p.getLsbD c.prm.stdFmGateBit = false then .pr2Xfm p
  else if c.ssr.getLsbD c.prm.ssrGateBit = c.prm.ssrGateAllow then .pr2Perg p
  else .pr2Def p

/-- StandardConsoleMode's default bucket, writes (R208). -/
def standardDefaultWrite (c : Ctx) (p : Port) (d : Byte) : Instr :=
  if c.cfg.fmEnabled = false then .pw2Def p d
  else if c.cfg.regionIsT then
    if p = c.prm.audioctlPort then .pw2Actl p d
    else if p ∈ c.prm.tFmPorts then .pw2Tfm p d
    else .pw2Def p d
  else if p.getLsbD c.prm.stdFmGateBit = false then .pw2Xfm p d
  else .pw2Def p d

/-- StandardConsoleMode, reads (R204). -/
def standardRead (c : Ctx) (p : Port) : Instr :=
  match bucket p with
  | .b00 => .pr2B00 p
  | .b40 => .prHv p
  | .vdata => .prVdata p
  | .vctrl => .prVctrl p
  | .dflt => standardDefaultRead c p

/-- StandardConsoleMode, writes (R204): territory T decodes only 0x3E and 0x3F in bucket B00. -/
def standardWrite (c : Ctx) (p : Port) (d : Byte) : Instr :=
  match bucket p with
  | .b00 =>
    if c.cfg.regionIsT ∧ ¬ (p = 0x3E#8 ∨ p = 0x3F#8) then .pw2B00 p d else .pw2Per p d
  | .b40 => .pwSgen p d
  | .vdata => .pwVdata p d
  | .vctrl => .pwVctrl p d
  | .dflt => standardDefaultWrite c p d

/-- LegacyConsoleMode, reads (46_port_legacy.md R230, R233). -/
def legacyRead (c : Ctx) (p : Port) : Instr :=
  match bucket p with
  | .b00 => .pr3B00 p
  | .b40 => .prHv p
  | .vdata => .prVdata p
  | .vctrl => .prVctrl p
  | .dflt =>
    if c.cfg.fmEnabled then
      if p.getLsbD c.prm.legFmGateBit = false then .pr3Fm p else .pr3Def p
    else .pr3Per p

/-- LegacyConsoleMode, writes (R230, R233). -/
def legacyWrite (c : Ctx) (p : Port) (d : Byte) : Instr :=
  match bucket p with
  | .b00 => .pw3B00 p d
  | .b40 => .pwSgen p d
  | .vdata => .pwVdata p d
  | .vctrl => .pwVctrl p d
  | .dflt =>
    if c.cfg.fmEnabled then
      if p.getLsbD c.prm.legFmGateBit = false then .pw3Fm p d else .pw3Def p d
    else .pw3Per p d

/-- FirstGenMode, reads (47_port_firstgen.md R245). -/
def firstGenRead (p : Port) : Instr :=
  match bucket p with
  | .b00 => .pr4B00 p
  | .b40 => .pr4B40 p
  | .vdata => .prVdata p
  | .vctrl => .pr4Vctrl p
  | .dflt => .pr4Per p

/-- FirstGenMode, writes (R245). -/
def firstGenWrite (p : Port) (d : Byte) : Instr :=
  match bucket p with
  | .b00 => .pw4B00 p d
  | .b40 => .pw4Sgen p d
  | .vdata => .pwVdata p d
  | .vctrl => .pw4Vctrl p d
  | .dflt => .pw4Def p d

/-- A port read goes to the session's table and to no other (R155, R167). -/
def selectPortRead (c : Ctx) (p : Port) : Instr :=
  match c.cfg.variant with
  | .primary => primaryRead c p
  | .handheld => handheldRead c p
  | .standard => standardRead c p
  | .legacy => legacyRead c p
  | .firstGen => firstGenRead p

/-- A port write goes to the session's table and to no other (R155, R167). -/
def selectPortWrite (c : Ctx) (p : Port) (d : Byte) : Instr :=
  match c.cfg.variant with
  | .primary => primaryWrite c p d
  | .handheld => handheldWrite c p d
  | .standard => standardWrite c p d
  | .legacy => legacyWrite c p d
  | .firstGen => firstGenWrite p d

/-- The port number of a port operand: its low 8 bits (42_port_common.md R168). -/
def portNumber (port : BitVec 16) : Port := port.extractLsb' 0 8

/-- The operation a transaction selects (R92): total, no transaction is illegal (R88). -/
def select (c : Ctx) (t : Transaction) : Instr :=
  match t with
  | .mr a => selectMemRead c a
  | .mw a d => selectMemWrite c a d
  | .pr port => selectPortRead c (portNumber port)
  | .pw port d => selectPortWrite c (portNumber port) d

/-! ### The transaction word -/

/-- A transaction as a word (R81): data byte, three zero bits, V, IO, W, A. V is 0 in memory space and
`TW[15:8]` is 0 in port space. -/
def wordOf (v : Variant) (t : Transaction) : TxnWord :=
  match t with
  | .mr a => 0#8 ++ 0#3 ++ 0#3 ++ 0#1 ++ 0#1 ++ a
  | .mw a d => d ++ 0#3 ++ 0#3 ++ 0#1 ++ 1#1 ++ a
  | .pr port => 0#8 ++ 0#3 ++ variantCode v ++ 1#1 ++ 0#1 ++ 0#8 ++ portNumber port
  | .pw port d => d ++ 0#3 ++ variantCode v ++ 1#1 ++ 1#1 ++ 0#8 ++ portNumber port

/-- `A`, bits 15 to 0. -/
def fieldA (w : TxnWord) : Addr := w.extractLsb' 0 16

/-- `W`, bit 16: a write. -/
def fieldW (w : TxnWord) : Bool := w.getLsbD 16

/-- `IO`, bit 17: port space. -/
def fieldIO (w : TxnWord) : Bool := w.getLsbD 17

/-- `V`, bits 20 to 18. -/
def fieldV (w : TxnWord) : BitVec 3 := w.extractLsb' 18 3

/-- Bits 23 to 21, which `TW` does not have. -/
def fieldSpare (w : TxnWord) : BitVec 3 := w.extractLsb' 21 3

/-- The data byte of a write, bits 31 to 24. -/
def fieldD (w : TxnWord) : Byte := w.extractLsb' 24 8

/-- The transaction a word holds, its V apart. -/
def transactionOf (w : TxnWord) : Transaction :=
  if fieldIO w then
    if fieldW w then .pw (fieldA w) (fieldD w) else .pr (fieldA w)
  else
    if fieldW w then .mw (fieldA w) (fieldD w) else .mr (fieldA w)

/-- Why a word is no transaction of the session. -/
inductive Reject where
  /-- bits 23 to 21 are not zero: `TW` has 21 bits (R81) -/
  | spareBits
  /-- the variant code is 5, 6 or 7: there is no such variant (R81, U19) -/
  | noSuchVariant
  /-- a port word of another variant than the session's (R155, R324, U22) -/
  | otherVariant
  /-- fewer bytes than the transaction has -/
  | truncated
deriving DecidableEq, Repr

/-- The decoder: total on words. A memory word's V and a port word's `TW[15:8]` are ignored (R81). -/
def decode (c : Ctx) (w : TxnWord) : Except Reject Instr :=
  if fieldSpare w ≠ 0#3 then .error .spareBits
  else if fieldIO w = false then .ok (select c (transactionOf w))
  else
    match variantOfCode (fieldV w) with
    | none => .error .noSuchVariant
    | some v => if v = c.cfg.variant then .ok (select c (transactionOf w)) else .error .otherVariant

/-- The same from bytes, least significant first: three for a read, a fourth, the data byte, for a
write. Total on any list of bytes; the rest of the list is handed back. -/
def decodeBytes (c : Ctx) (bs : List Byte) : Except Reject (Instr × List Byte) :=
  match bs with
  | b0 :: b1 :: b2 :: rest =>
    if b2.getLsbD 0 then
      match rest with
      | d :: rest' => (decode c (d ++ b2 ++ b1 ++ b0)).map (fun i => (i, rest'))
      | [] => .error .truncated
    else (decode c (0#8 ++ b2 ++ b1 ++ b0)).map (fun i => (i, rest))
  | _ => .error .truncated

/-! ### The encoder -/

/-- The transaction that carries an operation's operands; the INTERNAL ones have none (R91). -/
def transactionFor (i : Instr) : Option Transaction :=
  match i with
  | .mrRam a => some (.mr a)
  | .mwRam a d => some (.mw a d)
  | .mrSnd a => some (.mr a)
  | .mwSnd a d => some (.mw a d)
  | .mrVid a => some (.mr a)
  | .mwVid a d => some (.mw a d)
  | .mwBsel a d => some (.mw a d)
  | .mrCunused a => some (.mr a)
  | .mwCunused a d => some (.mw a d)
  | .mrBank a => some (.mr a)
  | .mwBank a d => some (.mw a d)
  | .prVdata p => some (.pr (0#8 ++ p))
  | .pwVdata p d => some (.pw (0#8 ++ p) d)
  | .prVctrl p => some (.pr (0#8 ++ p))
  | .pwVctrl p d => some (.pw (0#8 ++ p) d)
  | .pwSgen p d => some (.pw (0#8 ++ p) d)
  | .prHv p => some (.pr (0#8 ++ p))
  | .pw0Per p d => some (.pw (0#8 ++ p) d)
  | .pr0B00 p => some (.pr (0#8 ++ p))
  | .pr0Hv p => some (.pr (0#8 ++ p))
  | .pr0Fm p => some (.pr (0#8 ++ p))
  | .pw0Fm p d => some (.pw (0#8 ++ p) d)
  | .pr0Def p => some (.pr (0#8 ++ p))
  | .pw0Def p d => some (.pw (0#8 ++ p) d)
  | .pr1Hio p => some (.pr (0#8 ++ p))
  | .pw1Hio p d => some (.pw (0#8 ++ p) d)
  | .pr1Per3E p => some (.pr (0#8 ++ p))
  | .pw1Per3E p d => some (.pw (0#8 ++ p) d)
  | .pr1B00 p => some (.pr (0#8 ++ p))
  | .pw1B00 p d => some (.pw (0#8 ++ p) d)
  | .pr1Def p => some (.pr (0#8 ++ p))
  | .pw1Def p d => some (.pw (0#8 ++ p) d)
  | .pw2Per p d => some (.pw (0#8 ++ p) d)
  | .pw2B00 p d => some (.pw (0#8 ++ p) d)
  | .pr2B00 p => some (.pr (0#8 ++ p))
  | .pr2Tfm p => some (.pr (0#8 ++ p))
  | .pw2Tfm p d => some (.pw (0#8 ++ p) d)
  | .pw2Actl p d => some (.pw (0#8 ++ p) d)
  | .pr2Xfm p => some (.pr (0#8 ++ p))
  | .pw2Xfm p d => some (.pw (0#8 ++ p) d)
  | .pr2Perg p => some (.pr (0#8 ++ p))
  | .pr2Def p => some (.pr (0#8 ++ p))
  | .pw2Def p d => some (.pw (0#8 ++ p) d)
  | .pr3B00 p => some (.pr (0#8 ++ p))
  | .pw3B00 p d => some (.pw (0#8 ++ p) d)
  | .pr3Fm p => some (.pr (0#8 ++ p))
  | .pw3Fm p d => some (.pw (0#8 ++ p) d)
  | .pr3Def p => some (.pr (0#8 ++ p))
  | .pw3Def p d => some (.pw (0#8 ++ p) d)
  | .pr3Per p => some (.pr (0#8 ++ p))
  | .pw3Per p d => some (.pw (0#8 ++ p) d)
  | .pr4B00 p => some (.pr (0#8 ++ p))
  | .pw4B00 p d => some (.pw (0#8 ++ p) d)
  | .pr4B40 p => some (.pr (0#8 ++ p))
  | .pw4Sgen p d => some (.pw (0#8 ++ p) d)
  | .pr4Vctrl p => some (.pr (0#8 ++ p))
  | .pw4Vctrl p d => some (.pw (0#8 ++ p) d)
  | .pr4Per p => some (.pr (0#8 ++ p))
  | .pw4Def p d => some (.pw (0#8 ++ p) d)
  | .arb => none
  | .umr _ => none
  | .umw _ _ => none
  | .lkr _ => none
  | .lkw _ _ => none
  | .upr _ => none
  | .upw _ _ => none

/-- The word of an operation in a session: none for the INTERNAL ones. -/
def encode (c : Ctx) (i : Instr) : Option TxnWord :=
  (transactionFor i).map (wordOf c.cfg.variant)

/-- The name opcode_table.json gives an operation. -/
def mnemonicOf (i : Instr) : String :=
  match i with
  | .mrRam _ => "MR.RAM"
  | .mwRam _ _ => "MW.RAM"
  | .mrSnd _ => "MR.SND"
  | .mwSnd _ _ => "MW.SND"
  | .mrVid _ => "MR.VID"
  | .mwVid _ _ => "MW.VID"
  | .mwBsel _ _ => "MW.BSEL"
  | .mrCunused _ => "MR.CUNUSED"
  | .mwCunused _ _ => "MW.CUNUSED"
  | .mrBank _ => "MR.BANK"
  | .mwBank _ _ => "MW.BANK"
  | .prVdata _ => "PR.VDATA"
  | .pwVdata _ _ => "PW.VDATA"
  | .prVctrl _ => "PR.VCTRL"
  | .pwVctrl _ _ => "PW.VCTRL"
  | .pwSgen _ _ => "PW.SGEN"
  | .prHv _ => "PR.HV"
  | .pw0Per _ _ => "PW.0.PER"
  | .pr0B00 _ => "PR.0.B00"
  | .pr0Hv _ => "PR.0.HV"
  | .pr0Fm _ => "PR.0.FM"
  | .pw0Fm _ _ => "PW.0.FM"
  | .pr0Def _ => "PR.0.DEF"
  | .pw0Def _ _ => "PW.0.DEF"
  | .pr1Hio _ => "PR.1.HIO"
  | .pw1Hio _ _ => "PW.1.HIO"
  | .pr1Per3E _ => "PR.1.PER3E"
  | .pw1Per3E _ _ => "PW.1.PER3E"
  | .pr1B00 _ => "PR.1.B00"
  | .pw1B00 _ _ => "PW.1.B00"
  | .pr1Def _ => "PR.1.DEF"
  | .pw1Def _ _ => "PW.1.DEF"
  | .pw2Per _ _ => "PW.2.PER"
  | .pw2B00 _ _ => "PW.2.B00"
  | .pr2B00 _ => "PR.2.B00"
  | .pr2Tfm _ => "PR.2.TFM"
  | .pw2Tfm _ _ => "PW.2.TFM"
  | .pw2Actl _ _ => "PW.2.ACTL"
  | .pr2Xfm _ => "PR.2.XFM"
  | .pw2Xfm _ _ => "PW.2.XFM"
  | .pr2Perg _ => "PR.2.PERG"
  | .pr2Def _ => "PR.2.DEF"
  | .pw2Def _ _ => "PW.2.DEF"
  | .pr3B00 _ => "PR.3.B00"
  | .pw3B00 _ _ => "PW.3.B00"
  | .pr3Fm _ => "PR.3.FM"
  | .pw3Fm _ _ => "PW.3.FM"
  | .pr3Def _ => "PR.3.DEF"
  | .pw3Def _ _ => "PW.3.DEF"
  | .pr3Per _ => "PR.3.PER"
  | .pw3Per _ _ => "PW.3.PER"
  | .pr4B00 _ => "PR.4.B00"
  | .pw4B00 _ _ => "PW.4.B00"
  | .pr4B40 _ => "PR.4.B40"
  | .pw4Sgen _ _ => "PW.4.SGEN"
  | .pr4Vctrl _ => "PR.4.VCTRL"
  | .pw4Vctrl _ _ => "PW.4.VCTRL"
  | .pr4Per _ => "PR.4.PER"
  | .pw4Def _ _ => "PW.4.DEF"
  | .arb => "ARB"
  | .umr _ => "UMR"
  | .umw _ _ => "UMW"
  | .lkr _ => "LKR"
  | .lkw _ _ => "LKW"
  | .upr _ => "UPR"
  | .upw _ _ => "UPW"

/-! ### opcode_table.json as data -/

/-- One row of the table (R91): `(TW & mask) = pattern` and a condition, evaluated at a word. -/
structure TableRow where
  mnemonic : String
  pattern : BitVec 24
  mask : BitVec 24
  cond : Bool
deriving DecidableEq, Repr

/-- `p = TW[7:0]` of the table's conditions (R91). -/
def tablePort (w : TxnWord) : Port := (fieldA w).extractLsb' 0 8

/-- `p in {0x3E,0x3F}`. -/
def condPair (w : TxnWord) : Bool := tablePort w == 0x3E#8 || tablePort w == 0x3F#8

/-- `p < 0x07 and CFG.handheldHwSelected`. -/
def condHio (c : Ctx) (w : TxnWord) : Bool :=
  decide ((tablePort w).toNat < 0x07) && c.cfg.handheldHwSelected

/-- `CFG.fmEnabled and CFG.regionIsT and p in PRM.T_FM_PORTS`. -/
def condTfm (c : Ctx) (w : TxnWord) : Bool :=
  c.cfg.fmEnabled && c.cfg.regionIsT && decide (tablePort w ∈ c.prm.tFmPorts)

/-- `CFG.fmEnabled and CFG.regionIsT` at `p = AUDIOCTL_PORT`. -/
def condActl (c : Ctx) (w : TxnWord) : Bool :=
  c.cfg.fmEnabled && c.cfg.regionIsT && tablePort w == c.prm.audioctlPort

/-- `CFG.fmEnabled and not CFG.regionIsT and p[PRM.STD_FM_GATE_BIT] = 0`. -/
def condXfm (c : Ctx) (w : TxnWord) : Bool :=
  c.cfg.fmEnabled && !c.cfg.regionIsT && !(tablePort w).getLsbD c.prm.stdFmGateBit

/-- The condition of `PR.2.PERG`, the only one that reads SSR (R92). -/
def condPerg (c : Ctx) (w : TxnWord) : Bool :=
  c.cfg.fmEnabled && !c.cfg.regionIsT && (tablePort w).getLsbD c.prm.stdFmGateBit &&
    c.ssr.getLsbD c.prm.ssrGateBit == c.prm.ssrGateAllow

/-- The table's rows: Memory. The rows that depend on a parameter take its value (R91). -/
def tableMemory (c : Ctx) (w : TxnWord) : List TableRow :=
  [ ⟨"MR.RAM", 0x000000#24, 0x03C000#24, true⟩,
    ⟨"MW.RAM", 0x010000#24, 0x03C000#24, true⟩,
    ⟨"MR.SND", 0x004000#24, 0x03E000#24, true⟩,
    ⟨"MW.SND", 0x014000#24, 0x03E000#24, true⟩,
    ⟨"MR.VID", (0x00#8 ++ c.prm.vselByte ++ 0x00#8), 0x03FF00#24, true⟩,
    ⟨"MW.VID", (0x01#8 ++ c.prm.vselByte ++ 0x00#8), 0x03FF00#24, true⟩,
    ⟨"MW.BSEL", (0x01#8 ++ c.prm.bselByte ++ 0x00#8), 0x03FF00#24, true⟩,
    ⟨"MR.CUNUSED", 0x006000#24, 0x03E000#24, (fieldA w).extractLsb' 8 8 != c.prm.vselByte⟩,
    ⟨"MW.CUNUSED", 0x016000#24, 0x03E000#24,
      (fieldA w).extractLsb' 8 8 != c.prm.vselByte && (fieldA w).extractLsb' 8 8 != c.prm.bselByte⟩,
    ⟨"MR.BANK", 0x008000#24, 0x038000#24, true⟩,
    ⟨"MW.BANK", 0x018000#24, 0x038000#24, true⟩ ]

/-- The table's rows: Shared. The rows that depend on a parameter take its value (R91). -/
def tableShared (w : TxnWord) : List TableRow :=
  [ ⟨"PR.VDATA", 0x020080#24, 0x0300C1#24, decide ((fieldV w).toNat ≤ 4)⟩,
    ⟨"PW.VDATA", 0x030080#24, 0x0300C1#24, decide ((fieldV w).toNat ≤ 4)⟩,
    ⟨"PR.VCTRL", 0x020081#24, 0x0300C1#24, decide ((fieldV w).toNat ≤ 3)⟩,
    ⟨"PW.VCTRL", 0x030081#24, 0x0300C1#24, decide ((fieldV w).toNat ≤ 3)⟩,
    ⟨"PW.SGEN", 0x030040#24, 0x0300C0#24, decide ((fieldV w).toNat ≤ 3)⟩,
    ⟨"PR.HV", 0x020040#24, 0x0300C0#24,
      decide (1 ≤ (fieldV w).toNat) && decide ((fieldV w).toNat ≤ 3)⟩ ]

/-- The table's rows: Primary. The rows that depend on a parameter take its value (R91). -/
def tablePrimary (c : Ctx) (w : TxnWord) : List TableRow :=
  [ ⟨"PW.0.PER", 0x030000#24, 0x1F00C0#24, true⟩,
    ⟨"PR.0.B00", 0x020000#24, 0x1F00C0#24, true⟩,
    ⟨"PR.0.HV", 0x020040#24, 0x1F00C0#24, true⟩,
    ⟨"PR.0.FM", 0x0200F0#24, 0x1F00F0#24, c.cfg.fmEnabled⟩,
    ⟨"PW.0.FM", 0x0300F0#24, 0x1F00F0#24, c.cfg.fmEnabled⟩,
    ⟨"PR.0.DEF", 0x0200C0#24, 0x1F00C0#24,
      !(decide (0xF0 ≤ (tablePort w).toNat) && c.cfg.fmEnabled)⟩,
    ⟨"PW.0.DEF", 0x0300C0#24, 0x1F00C0#24,
      !(decide (0xF0 ≤ (tablePort w).toNat) && c.cfg.fmEnabled)⟩ ]

/-- The table's rows: Handheld. The rows that depend on a parameter take its value (R91). -/
def tableHandheld (c : Ctx) (w : TxnWord) : List TableRow :=
  [ ⟨"PR.1.HIO", 0x060000#24, 0x1F00C0#24, condHio c w⟩,
    ⟨"PW.1.HIO", 0x070000#24, 0x1F00C0#24, condHio c w⟩,
    ⟨"PR.1.PER3E", 0x06003E#24, 0x1F00FE#24, true⟩,
    ⟨"PW.1.PER3E", 0x07003E#24, 0x1F00FE#24, true⟩,
    ⟨"PR.1.B00", 0x060000#24, 0x1F00C0#24, !condPair w && !condHio c w⟩,
    ⟨"PW.1.B00", 0x070000#24, 0x1F00C0#24, !condPair w && !condHio c w⟩,
    ⟨"PR.1.DEF", 0x0600C0#24, 0x1F00C0#24, true⟩,
    ⟨"PW.1.DEF", 0x0700C0#24, 0x1F00C0#24, true⟩ ]

/-- The table's rows: Standard. The rows that depend on a parameter take its value (R91). -/
def tableStandard (c : Ctx) (w : TxnWord) : List TableRow :=
  [ ⟨"PW.2.PER", 0x0B0000#24, 0x1F00C0#24, !c.cfg.regionIsT || condPair w⟩,
    ⟨"PW.2.B00", 0x0B0000#24, 0x1F00C0#24, c.cfg.regionIsT && !condPair w⟩,
    ⟨"PR.2.B00", 0x0A0000#24, 0x1F00C0#24, true⟩,
    ⟨"PR.2.TFM", 0x0A00C0#24, 0x1F00C0#24, condTfm c w⟩,
    ⟨"PW.2.TFM", 0x0B00C0#24, 0x1F00C0#24, condTfm c w⟩,
    ⟨"PW.2.ACTL", (0x0B#8 ++ 0x00#8 ++ c.prm.audioctlPort), 0x1F00FF#24,
      c.cfg.fmEnabled && c.cfg.regionIsT⟩,
    ⟨"PR.2.XFM", 0x0A00C0#24, 0x1F00C0#24, condXfm c w⟩,
    ⟨"PW.2.XFM", 0x0B00C0#24, 0x1F00C0#24, condXfm c w⟩,
    ⟨"PR.2.PERG", 0x0A00C0#24, 0x1F00C0#24, condPerg c w⟩,
    ⟨"PR.2.DEF", 0x0A00C0#24, 0x1F00C0#24, !condTfm c w && !condXfm c w && !condPerg c w⟩,
    ⟨"PW.2.DEF", 0x0B00C0#24, 0x1F00C0#24, !condTfm c w && !condActl c w && !condXfm c w⟩ ]

/-- The table's rows: Legacy. The rows that depend on a parameter take its value (R91). -/
def tableLegacy (c : Ctx) (w : TxnWord) : List TableRow :=
  [ ⟨"PR.3.B00", 0x0E0000#24, 0x1F00C0#24, true⟩,
    ⟨"PW.3.B00", 0x0F0000#24, 0x1F00C0#24, true⟩,
    ⟨"PR.3.FM", 0x0E00C0#24, 0x1F00C0#24,
      c.cfg.fmEnabled && !(tablePort w).getLsbD c.prm.legFmGateBit⟩,
    ⟨"PW.3.FM", 0x0F00C0#24, 0x1F00C0#24,
      c.cfg.fmEnabled && !(tablePort w).getLsbD c.prm.legFmGateBit⟩,
    ⟨"PR.3.DEF", 0x0E00C0#24, 0x1F00C0#24,
      c.cfg.fmEnabled && (tablePort w).getLsbD c.prm.legFmGateBit⟩,
    ⟨"PW.3.DEF", 0x0F00C0#24, 0x1F00C0#24,
      c.cfg.fmEnabled && (tablePort w).getLsbD c.prm.legFmGateBit⟩,
    ⟨"PR.3.PER", 0x0E00C0#24, 0x1F00C0#24, !c.cfg.fmEnabled⟩,
    ⟨"PW.3.PER", 0x0F00C0#24, 0x1F00C0#24, !c.cfg.fmEnabled⟩ ]

/-- The table's rows: FirstGen. The rows that depend on a parameter take its value (R91). -/
def tableFirstGen : List TableRow :=
  [ ⟨"PR.4.B00", 0x120000#24, 0x1F00C0#24, true⟩,
    ⟨"PW.4.B00", 0x130000#24, 0x1F00C0#24, true⟩,
    ⟨"PR.4.B40", 0x120040#24, 0x1F00C0#24, true⟩,
    ⟨"PW.4.SGEN", 0x130040#24, 0x1F00C0#24, true⟩,
    ⟨"PR.4.VCTRL", 0x120081#24, 0x1F00C1#24, true⟩,
    ⟨"PW.4.VCTRL", 0x130081#24, 0x1F00C1#24, true⟩,
    ⟨"PR.4.PER", 0x1200C0#24, 0x1F00C0#24, true⟩,
    ⟨"PW.4.DEF", 0x1300C0#24, 0x1F00C0#24, true⟩ ]

/-- The 59 rows of format MEM or PORT, their conditions evaluated at `w`. -/
def opcodeTable (c : Ctx) (w : TxnWord) : List TableRow :=
  tableMemory c w ++ tableShared w ++ tablePrimary c w ++
  tableHandheld c w ++ tableStandard c w ++ tableLegacy c w ++ tableFirstGen

/-- The word's bits 23 to 0 match the row and its condition holds (R92). -/
def rowSelected (w : TxnWord) (r : TableRow) : Bool :=
  decide (w.extractLsb' 0 24 &&& r.mask = r.pattern) && r.cond

/-- The mnemonics of the rows a word selects. -/
def selectedRows (c : Ctx) (w : TxnWord) : List String :=
  ((opcodeTable c w).filter (rowSelected w)).map TableRow.mnemonic

/-! ### The host's question -/

/-- The word of an instruction numbered as the table numbers it: its low `nbits` bits, the rest 0. -/
def tableWord (nbits w : Nat) : TxnWord := BitVec.ofNat 32 (w % 2 ^ nbits)

/-- The variant a port word names takes the place of the session's; a memory word names none (R81). -/
def sessionVariant (v : Variant) (w : TxnWord) : Variant :=
  if fieldIO w then (variantOfCode (fieldV w)).getD v else v

/-- What the decoder reads from a table word, in the launch session of the word's variant. -/
def decodeTableWord (nbits w : Nat) : Option Instr :=
  let word := tableWord nbits w
  let c : Ctx := { Ctx.launch with cfg := { Cfg.launch with variant := sessionVariant Cfg.launch.variant word } }
  (decode c word).toOption

end Sys2Proof
end

