-- ==== Sys2Proof/Machine/State.lean ====
section
/-! DEFINITION. The state of the block (10_state.md R20), the moves the host may make (60_exceptions.md
R300) as plain data, the reasons a step stops, and the state the model starts from. -/

namespace Sys2Proof.Machine

/-- CCYC (R21): a natural number, or `never`, the sentinel "never reached", which is no number and
greater than every number (D6). -/
inductive Cycle where
  | num (n : Nat)
  | never
deriving DecidableEq, Repr

/-- The DmaSnapshot (R23): written by the video device, read here only by `ARB` step 1. -/
structure Dma where
  endCycle : Nat
  remainingLength : Nat
  conflictClass : Nat
deriving DecidableEq, Repr

/-- The four kinds of BankTable handler (R26, D11). -/
inductive Handler where
  | lockup
  | unused
  | video
  | ext (id : Nat)
deriving DecidableEq, Repr

/-- A BankTable entry (R26): a 65536-byte buffer, named by a number, or a handler. Two entries may name
the same buffer. -/
inductive BtEntry where
  | direct (buf : Nat)
  | delegate (h : Handler)
deriving DecidableEq, Repr

/-- The BankTable (R26): one entry for each top byte of the primary CPU's space. -/
abbrev BankTable := Vector BtEntry 256

/-- Bytes by key. CANONICAL FORM: keys strictly rising. An unlisted key holds no written byte, so no
entry can equal what an unlisted key reads as. -/
abbrev Memory := List Host.Cell

/-- What an external reset leaves (R298, R311, U16): finite counters, BANK by its 9 high bits (H11), RUN
and the DMA snapshot as their owners hold them; and the BankTable, SSR, the RAM and the Direct buffers,
each kept (`none`) or replaced apart from the others. -/
structure ResetChoice where
  ccyc : Nat
  pcyc : Nat
  dma : Dma
  run : Nat
  bankHigh : BitVec 9
  bt : Option BankTable
  ssr : Option Byte
  redrawRam : Option Nat
  redrawBufs : Option Nat
deriving DecidableEq, Repr

/-- A move of the host between two atomic steps: the liberties H1 to H9 of R300, and a step of the
collaborators' own (R40). None changes PRM (H10), `CFG.variant` or `CFG.regionIsT` (H15), and none installs
a BANK with a low bit set (H11); that `remap` and `externalReset` leave the video device's entry a Delegate
(H10) is asked where a step performs them (`keepsDuties`). -/
inductive HostMove where
  /-- H1: the video device rewrites the snapshot -/
  | setDma (dma : Dma)
  /-- H2: the two CPUs execute for `dc` and `dp` units -/
  | advance (dc dp : Nat)
  /-- H3, R301: a frame boundary, with the counters' new values and whether the owed bit is cleared -/
  | frame (ccyc pcyc : Nat) (clearOwed : Bool)
  /-- H4: RUN's bits other than `OWED_BIT` -/
  | setRun (run : Nat)
  /-- H5: a byte of RAM -/
  | pokeRam (offset : BitVec 13) (v : Byte)
  /-- H5: a byte of a Direct buffer -/
  | pokeBuf (buf : Nat) (offset : BitVec 16) (v : Byte)
  /-- H6: the memory subsystem remaps an entry -/
  | remap (index : Byte) (entry : BtEntry)
  /-- H7: the I/O chip's side of the shared register -/
  | setSsr (v : Byte)
  /-- H8, R299: `RECONFIG(fmEnabled', amplifierLevel')` -/
  | reconfig (fmEnabled : Bool) (amplifierLevel : Nat)
  /-- H9, R298: external reset -/
  | externalReset (r : ResetChoice)
  /-- R40: the collaborators change in their own steps -/
  | outside (ext : Nat)
deriving DecidableEq, Repr

/-- What the block is handed next: a transaction as its word, or a move of the host (R296). -/
inductive Input where
  | txn (w : TxnWord)
  | move (m : HostMove)
deriving DecidableEq, Repr

/-- The state. `cfg` to `bufs` are the spec's (R20); `ramDraw`, `bufDraw`, `ext`, `calls`, `ret` and
`inbox` are the model's own (INVENTORY.md). -/
structure State where
  cfg : Cfg
  prm : Prm
  ccyc : Cycle
  pcyc : Nat
  dma : Dma
  run : Nat
  bank : PAddr
  bt : BankTable
  ssr : Byte
  ram : Memory
  bufs : Memory
  ramDraw : Nat
  bufDraw : Nat
  ext : Nat
  calls : List Call
  ret : Option Byte
  inbox : List Input
deriving DecidableEq, Repr

/-- The block raises nothing (60_exceptions.md R280) and no access goes to an address the spec says
does not exist, so no step ends in a fault: the type has no constructor. -/
inductive Fault where
deriving DecidableEq, Repr

/-- Why a step has no meaning. -/
inductive Refusal where
  /-- raised by `exec`'s arm of an instruction without a meaning; safe; no arm raises it -/
  | notModelled (mnemonic : String)
  /-- raised by every transaction and by `ARB` when CCYC is NEVER (R287, D10, U9, R147); safe -/
  | halted
  /-- raised by `MR.VID` and `MW.VID` when the entry `VID_BT_INDEX` is `Direct` (R115, D12, U10); safe -/
  | videoEntryDirect
  /-- raised by `step` on a move that would put a Direct entry at `VID_BT_INDEX`: the host has no such
  move (R300, H10, R323); safe -/
  | hostBreaksDuty
  /-- raised by `step` on a word that is no transaction of the session (R81, U19, U22); safe -/
  | undecodable (why : Reject)
deriving DecidableEq, Repr

/-- What the decode reads of the state (R92). -/
def State.ctx (s : State) : Ctx where
  cfg := s.cfg
  prm := s.prm
  ssr := s.ssr

/-- The BankTable of `State.reset`. DESIGN CHOICE, unsafe (log 8): the host supplies the table (R38);
here the video device's entry is `Delegate(HVideo)` (duty H10) and every other one unused. -/
def BankTable.launch : BankTable :=
  (Vector.replicate 256 (.delegate .unused)).set 0xC0 (.delegate .video)

/-- The model's start: the launch state of R38 with the choices the log names (logs 6 to 9), nothing
written, nothing called and nothing to do. -/
def State.reset : State where
  cfg := Cfg.launch
  prm := Prm.defaults
  ccyc := .num 0
  pcyc := 0
  dma := { endCycle := 0, remainingLength := 0, conflictClass := 0 }
  run := 1
  bank := 0x000000#24
  bt := BankTable.launch
  ssr := 0x00#8
  ram := []
  bufs := []
  ramDraw := 0
  bufDraw := 0
  ext := 0
  calls := []
  ret := none
  inbox := []

end Sys2Proof.Machine
end

