-- ==== Sys2Proof/Machine/Operands.lean ====
section
/-! DEFINITION. Operand assembly (30_encoding.md R87): every operand the block hands on, cut or computed
as the rule says and in no other way. -/

namespace Sys2Proof.Machine

/-- RAM offset `a & 0x1FFF` (R82, R87). -/
def ramOffset (a : Addr) : BitVec 13 := a.extractLsb' 0 13

/-- Sound-chip register index `a & 3`. -/
def sndReg (a : Addr) : BitVec 2 := a.extractLsb' 0 2

/-- FM register index `p & 3` (42_port_common.md R161). -/
def fmReg (p : Port) : BitVec 2 := p.extractLsb' 0 2

/-- Port parity `p & 1` (R165). -/
def parity (p : Port) : BitVec 1 := p.extractLsb' 0 1

/-- What the video window forwards: the whole 16-bit address, no effective address (R115). -/
def windowAddress (a : Addr) : PAddr := a.zeroExtend 24

/-- The banked-window combiner `BANK | zext_24(a & 0x7FFF)` (20_memory.md R56). -/
def effectiveAddress (bank : PAddr) (a : Addr) : PAddr := bank ||| (a &&& 0x7FFF#16).zeroExtend 24

/-- BankTable index `ea[23:16]` (R57). -/
def btIndex (ea : PAddr) : Byte := ea.extractLsb' 16 8

/-- Buffer offset `ea & 0xFFFF` (R58). -/
def bufOffset (ea : PAddr) : BitVec 16 := ea.extractLsb' 0 16

/-- `HVBYTE(hv, p)` (R160): an odd port returns the low byte, an even one the high byte. -/
def hvByte (hv : BitVec 16) (p : Port) : Byte :=
  if p.getLsbD 0 then hv.extractLsb' 0 8 else hv.extractLsb' 8 8

/-- The deciding bit of the audio-control write: `((D + 1) mod 256)[1]` (R211, R148 (e)). -/
def audioControlBit (d : Byte) : Bool := (d + 1#8).getLsbD 1

/-- The deciding bit of LegacyConsoleMode's mute: `D[0]` (R235). -/
def legacyMuteBit (d : Byte) : Bool := d.getLsbD 0

/-- `MUTE(b)` (R163): 0x00 for 1, `MUTE_ON_MASK` for 0. -/
def muteMask (q : Prm) (b : Bool) : Byte := if b then 0x00#8 else q.muteOnMask

/-- `BSHIFT(BANK, D)` (40_memdecode.md R117). Serial: `((b >> 1) | ((v & 1) << 23)) & 0xFF8000`, the
default of R7. External: nine free bits over fifteen zero ones, which is all R117 says of it. -/
def bankShift (l : ShiftLogic) (bank : PAddr) (v : Byte) : PAddr :=
  match l with
  | .serial => ((bank >>> 1) ||| ((v &&& 1#8).zeroExtend 24 <<< 23)) &&& 0xFF8000#24
  | .external => Config.bshiftHigh bank v ++ 0#15

end Sys2Proof.Machine
end

