-- ==== Sys2Proof/Machine/Flags.lean ====
section
/-! DEFINITION. RUN (10_state.md R24, R36): a mask of `RUN_WIDTH` bits held as a natural number, bit 0
"execution enabled" and bit `OWED_BIT` "owed bus access". Every other bit is kept by every rule of the
block. And the wait-state charge (41_arbitration.md R142). -/

namespace Sys2Proof.Machine

/-- `RUN | (1 << OWED_BIT)` (R143). -/
def setOwed (owedBit run : Nat) : Nat := run ||| 1 <<< owedBit

/-- RUN with bit `OWED_BIT` cleared, which only the host does (R301). -/
def clearOwed (owedBit run : Nat) : Nat := run ^^^ (run &&& 1 <<< owedBit)

/-- `RUN & ~1` (R263): bit 0 cleared, every other bit kept. -/
def clearEnable (run : Nat) : Nat := run ^^^ (run &&& 1)

/-- H4 of R300: every bit below `RUN_WIDTH` but `OWED_BIT` from `new`, that bit from `run`. -/
def replaceOthers (width owedBit run new : Nat) : Nat :=
  clearOwed owedBit (new % 2 ^ width) ||| (run &&& 1 <<< owedBit)

/-- `WAITCHARGE(c) = (((c mod 7) + 72) div 7) * 7` (R142), to be kept literally (C1, U6). -/
def waitCharge (c : Nat) : Nat := (c % 7 + 72) / 7 * 7

end Sys2Proof.Machine
end

