-- ==== Sys2Proof/Machine/Oracle.lean ====
section
/-! DEFINITION. What a call to a collaborator does outside the block (00_scope.md R10, 10_state.md R40): its
answer and its transition of the unseen state EXT, free values of all that it can see when it is called. None has a body: no proof can see what it is. -/

namespace Sys2Proof

/-- What a collaborator can see at a call: the whole state of the block at that moment, CCYC included
(R165, R316, D35), its own unseen state `ext`, and the calls made before (R10). The model's own `ret` and
`inbox` are no part of it. -/
def Machine.State.seen (s : Machine.State) : Machine.State := { s with ret := none, inbox := [] }

/-- FREE VALUE, safe (log 3): the byte a collaborator answers to a read (R10, R40, U1). -/
opaque Config.answer (seen : Machine.State) (call : Call) : Byte

/-- FREE VALUE, safe (log 3): the 16-bit answer of `VID.hv` (R10, U1, U11). -/
opaque Config.hvAnswer (seen : Machine.State) (cycle : Int) : BitVec 16

/-- FREE VALUE, safe (log 3): the coprocessor's program position, `COP.pc()` (10_state.md R35). -/
opaque Config.copPc (seen : Machine.State) : Addr

/-- FREE VALUE, safe (log 3): SSR after a `PER.write`, which may change it (R30, R40, R165, U15). -/
opaque Config.ssrAfterPerWrite (seen : Machine.State) (call : Call) : Byte

/-- FREE VALUE, safe (log 3): the collaborators' unseen state after a call, which is a transition of it
(R40), `COP.pc` and `COP.peek` apart (R266). So what was seen at one call, its CCYC say, may bear on every later answer (R165). -/
opaque Config.extAfter (seen : Machine.State) (call : Call) : Nat

end Sys2Proof
end

