-- ==== Sys2Proof/Machine/Ops.lean ====
section
/-! DEFINITION. The named operations over the state: memory, the updates of each field, the collaborator
calls, the Bus Arbitration Unit, the fault handlers (what the block has in place of exceptions, R280),
and the access through a BankTable entry. -/

namespace Sys2Proof.Machine

/-! ### Memory -/

/-- The byte written at a key, if any. -/
def memRead (m : Memory) (key : Nat) : Option Byte :=
  match m with
  | [] => none
  | (k, v) :: rest => if k = key then some v else memRead rest key

/-- The memory with `v` at `key`: the cell is inserted in its place or replaced. -/
def memWrite (m : Memory) (key : Nat) (v : Byte) : Memory :=
  match m with
  | [] => [(key, v)]
  | (k, u) :: rest =>
    if key < k then (key, v) :: (k, u) :: rest
    else if key = k then (key, v) :: rest
    else (k, u) :: memWrite rest key v

/-- Every key is above `low`, and the keys rise strictly. -/
def memSortedAbove (low : Nat) (m : Memory) : Bool :=
  match m with
  | [] => true
  | (k, _) :: rest => decide (low < k) && memSortedAbove k rest

/-- The canonical form of a memory: keys strictly rising. -/
def memWf (m : Memory) : Bool :=
  match m with
  | [] => true
  | (k, _) :: rest => memSortedAbove k rest

/-- Every key is below `bound`. -/
def memBelow (bound : Nat) (m : Memory) : Bool := m.all (fun cell => decide (cell.1 < bound))

/-- The key of byte `offset` of buffer `buf`. -/
def bufKey (buf : Nat) (offset : BitVec 16) : Nat := buf * 65536 + offset.toNat

/-- `RAM[offset]`: the byte last written, or the drawn one (R38, U2). -/
def ramByte (s : State) (offset : BitVec 13) : Byte :=
  (memRead s.ram offset.toNat).getD (Config.ramDrawn s.ramDraw offset.toNat)

/-- `buf[offset]` of a Direct buffer: the byte last written, or the drawn one (R38, U2). -/
def bufByte (s : State) (buf : Nat) (offset : BitVec 16) : Byte :=
  (memRead s.bufs (bufKey buf offset)).getD (Config.bufDrawn s.bufDraw (bufKey buf offset))

/-- `BT[i]` (R57). -/
def btEntry (t : BankTable) (i : Byte) : BtEntry := t.get ⟨i.toNat, i.isLt⟩

/-- The entry is `Delegate(h)`, whatever the handler (R26). -/
def isDelegate (e : BtEntry) : Bool :=
  match e with
  | .direct _ => false
  | .delegate _ => true

/-! ### Updates, one per field a transaction writes -/

/-- The value a read returns; none after a write (R80). -/
def State.setRet (s : State) (v : Option Byte) : State := { s with ret := v }

def State.setCcyc (s : State) (c : Cycle) : State := { s with ccyc := c }

def State.setPcyc (s : State) (n : Nat) : State := { s with pcyc := n }

def State.setRun (s : State) (r : Nat) : State := { s with run := r }

def State.setBank (s : State) (b : PAddr) : State := { s with bank := b }

def State.setSsr (s : State) (v : Byte) : State := { s with ssr := v }

/-- `RAM[offset] <- v` (R112). -/
def State.writeRam (s : State) (offset : BitVec 13) (v : Byte) : State :=
  { s with ram := memWrite s.ram offset.toNat v }

/-- `buf[offset] <- v` (R58). -/
def State.writeBuf (s : State) (buf : Nat) (offset : BitVec 16) (v : Byte) : State :=
  { s with bufs := memWrite s.bufs (bufKey buf offset) v }

/-- A call to a collaborator is an event the model records, in order (R10). Alone it changes no state: so
are `COP.pc` and `COP.peek`, which have no side effects (48_fault_handlers.md R266, D28, R54). -/
def State.noteCall (s : State) (c : Call) : State := { s with calls := s.calls ++ [c] }

/-- Every other call is also a transition of the unseen state EXT (R40). -/
def State.record (s : State) (c : Call) : State :=
  { s.noteCall c with ext := Config.extAfter s.seen c }

def State.setInbox (s : State) (l : List Input) : State := { s with inbox := l }

/-! ### Collaborator calls (R10, R40). A call is answered from what the collaborator sees at that point. -/

/-- A call that yields a byte, which the read transaction returns. -/
def callRead (s : State) (c : Call) : State :=
  (s.record c).setRet (some (Config.answer s.seen c))

/-- A call without an answer, in a write transaction. -/
def callWrite (s : State) (c : Call) : State := (s.record c).setRet none

/-- `HVBYTE(VID.hv(cycle), p)` (R160, R178). -/
def callHv (s : State) (cycle : Int) (p : Port) : State :=
  (s.record (.vidHv cycle)).setRet (some (hvByte (Config.hvAnswer s.seen cycle) p))

/-- `PER.write(p & 1, D, offset)` (R165): the only call that may change the block's state, SSR (R40). -/
def callPerWrite (s : State) (p : Port) (d : Byte) (offset : Int) : State :=
  (callWrite s (.perWrite (parity p) d offset)).setSsr
    (Config.ssrAfterPerWrite s.seen (.perWrite (parity p) d offset))

/-- `BANK <- BSHIFT(BANK, D)` (R117): the call is an event like the others (R10), its answer the new
BANK. -/
def callBshift (s : State) (d : Byte) : State :=
  ((s.record (.bshift s.bank d)).setBank (bankShift s.prm.bshift s.bank d)).setRet none

/-- `SGEN.config(CCYC, CFG.amplifierLevel, MUTE(b))` (R163). -/
def muteCall (s : State) (cycle : Nat) (b : Bool) : Call :=
  .sgenConfig cycle s.cfg.amplifierLevel (muteMask s.prm b)

/-! ### The Bus Arbitration Unit (41_arbitration.md) -/

/-- The stall condition of step 1 (R143): strictly behind the end of a contending transfer. -/
abbrev stalls (s : State) (c0 : Nat) : Prop := s.dma.conflictClass < 2 ∧ c0 < s.dma.endCycle

/-- Step 1 (R143). -/
def arbStall (c0 : Nat) (s : State) : State :=
  if stalls s c0 then
    let s1 := s.setCcyc (.num s.dma.endCycle)
    if s.dma.remainingLength ≠ 0 then s1.setRun (setOwed s.prm.owedBit s.run) else s1
  else s

/-- Step 2 (R144): charged from `c0`, the value of entry. -/
def arbCharge (c0 : Nat) (s : State) : State := s.setPcyc (s.pcyc + waitCharge c0)

/-- `CCYC <- CCYC + n`; no addition is applied to NEVER (R148). -/
def addCycles (n : Nat) (s : State) : State :=
  match s.ccyc with
  | .num c => s.setCcyc (.num (c + n))
  | .never => s

/-- `ARB()` entered with `CCYC = c0` (R141): the three steps in this order (R146). -/
def arb (c0 : Nat) (s : State) : State := addCycles 45 (arbCharge c0 (arbStall c0 s))

/-- A transaction needs a running block; a halted one accepts none (60_exceptions.md R287). The
continuation gets the CCYC of entry. -/
def whenRunning (s : State) (k : Nat → Host.Outcome State Fault Refusal) :
    Host.Outcome State Fault Refusal :=
  match s.ccyc with
  | .num c => k c
  | .never => .refused .halted

/-- The same for an operation that always completes. -/
def running (s : State) (k : Nat → State) : Host.Outcome State Fault Refusal :=
  whenRunning s fun c => .next (k c)

/-! ### The fault handlers (48_fault_handlers.md): how a transaction without a device ends -/

/-- `UMR` (R261). -/
def unusedRead (s : State) : State := s.setRet (some 0xFF#8)

/-- `UMW` (R262). -/
def unusedWrite (s : State) : State := s.setRet none

/-- Lockup entry (R263, R264, R285): the only thing that stops the coprocessor, unless overridden. -/
def lockup (s : State) : State :=
  if s.cfg.forceNoLockup then s else (s.setCcyc .never).setRun (clearEnable s.run)

/-- `LKR` (R263): 0xFF is returned in both cases. -/
def lockupRead (s : State) : State := (lockup s).setRet (some 0xFF#8)

/-- `LKW` (R264). -/
def lockupWrite (s : State) : State := (lockup s).setRet none

/-- `OPENBUS() = COP.peek((COP.pc() - 1) mod 65536)` (R266): two calls, the second with the first's answer
less one at 16 bits, both without side effects (D28). -/
def openBus (s : State) : State :=
  let asked := s.noteCall .copPc
  let peek := Call.copPeek (Config.copPc s.seen - 1#16)
  (asked.noteCall peek).setRet (some (Config.answer asked.seen peek))

/-- Unused port reads float only in these sessions (R265, D28). -/
def floats (c : Cfg) : Bool := (c.variant = .standard || c.variant = .legacy) && c.openBusFamily

/-- `UPR` (R265). -/
def unusedPortRead (s : State) : State := if floats s.cfg then openBus s else s.setRet (some 0xFF#8)

/-- `UPW` (R267). -/
def unusedPortWrite (s : State) : State := s.setRet none

/-! ### Access through a BankTable entry (20_memory.md R58, R59) -/

/-- `h.read(addr)`. -/
def handlerRead (h : Handler) (addr : PAddr) (s : State) : State :=
  match h with
  | .lockup => lockupRead s
  | .unused => unusedRead s
  | .video => callRead s (.busRead .video addr)
  | .ext id => callRead s (.busRead (.ext id) addr)

/-- `h.write(addr, v)`. -/
def handlerWrite (h : Handler) (addr : PAddr) (v : Byte) (s : State) : State :=
  match h with
  | .lockup => lockupWrite s
  | .unused => unusedWrite s
  | .video => callWrite s (.busWrite .video addr v)
  | .ext id => callWrite s (.busWrite (.ext id) addr v)

/-- A read through an entry. -/
def entryRead (e : BtEntry) (ea : PAddr) (s : State) : State :=
  match e with
  | .direct buf => s.setRet (some (bufByte s buf (bufOffset ea)))
  | .delegate h => handlerRead h ea s

/-- A write through an entry; to a Direct buffer it is performed unconditionally (R58). -/
def entryWrite (e : BtEntry) (ea : PAddr) (v : Byte) (s : State) : State :=
  match e with
  | .direct buf => (s.writeBuf buf (bufOffset ea) v).setRet none
  | .delegate h => handlerWrite h ea v s

/-- The entry a banked access at `a` reaches (R56, R57). -/
def bankedEntry (s : State) (a : Addr) : BtEntry := btEntry s.bt (btIndex (effectiveAddress s.bank a))

/-- The entry reserved for the video device (R115). -/
def videoEntry (s : State) : BtEntry := btEntry s.bt s.prm.vidBtIndex

end Sys2Proof.Machine
end

