-- ==== Sys2Proof/Machine/Arbitration.lean ====
section
/-! DEFINITION. The meaning of the INTERNAL operation `ARB` (41_arbitration.md). -/

namespace Sys2Proof.Machine

/-- `ARB` (R141); defined only for `CCYC != NEVER` (R147). It returns no value. -/
def execArb (s : State) : Host.Outcome State Fault Refusal :=
  running s fun c => (arb c s).setRet none

end Sys2Proof.Machine
end

