-- ==== Sys2Proof/Machine/FaultHandlers.lean ====
section
/-! DEFINITION. The meanings of the INTERNAL fault handlers (48_fault_handlers.md), invoked by themselves:
each is its shared operation. They have no precondition; a second lockup leaves the state as it is
(R269). The operands serve only the diagnostic log, which is not modelled (R268, D34). -/

namespace Sys2Proof.Machine

/-- `UMR` (R261). -/
def execUmr (_ea : PAddr) (s : State) : Host.Outcome State Fault Refusal := .next (unusedRead s)

/-- `UMW` (R262). -/
def execUmw (_ea : PAddr) (_d : Byte) (s : State) : Host.Outcome State Fault Refusal :=
  .next (unusedWrite s)

/-- `LKR` (R263). -/
def execLkr (_ea : PAddr) (s : State) : Host.Outcome State Fault Refusal := .next (lockupRead s)

/-- `LKW` (R264). -/
def execLkw (_ea : PAddr) (_d : Byte) (s : State) : Host.Outcome State Fault Refusal :=
  .next (lockupWrite s)

/-- `UPR` (R265). -/
def execUpr (_p : Port) (s : State) : Host.Outcome State Fault Refusal := .next (unusedPortRead s)

/-- `UPW` (R267). -/
def execUpw (_p : Port) (_d : Byte) (s : State) : Host.Outcome State Fault Refusal :=
  .next (unusedPortWrite s)

end Sys2Proof.Machine
end

