-- ==== Sys2Proof/Machine/MemDecode.lean ====
section
/-! DEFINITION. The meanings of the memory-space operations (40_memdecode.md R111 to R121). -/

namespace Sys2Proof.Machine

/-- `MR.RAM` (R111). -/
def execMrRam (a : Addr) (s : State) : Host.Outcome State Fault Refusal :=
  running s fun _ => s.setRet (some (ramByte s (ramOffset a)))

/-- `MW.RAM` (R112). -/
def execMwRam (a : Addr) (d : Byte) (s : State) : Host.Outcome State Fault Refusal :=
  running s fun _ => (s.writeRam (ramOffset a) d).setRet none

/-- `MR.SND` (R113): `SND.read(CCYC, a & 3)`, no `ARB()`. -/
def execMrSnd (a : Addr) (s : State) : Host.Outcome State Fault Refusal :=
  running s fun c => callRead s (.sndRead c (sndReg a))

/-- `MW.SND` (R114): `SND.write(CCYC, a & 3, D)`. -/
def execMwSnd (a : Addr) (d : Byte) (s : State) : Host.Outcome State Fault Refusal :=
  running s fun c => callWrite s (.sndWrite c (sndReg a) d)

/-- `MR.VID` (R115): `ARB()`, then the entry reserved for the video device with the 16-bit address;
refused when that entry is `Direct` (D12, U10). -/
def execMrVid (a : Addr) (s : State) : Host.Outcome State Fault Refusal :=
  whenRunning s fun c =>
    match videoEntry s with
    | .direct _ => .refused .videoEntryDirect
    | .delegate h => .next (handlerRead h (windowAddress a) (arb c s))

/-- `MW.VID` (R116). -/
def execMwVid (a : Addr) (d : Byte) (s : State) : Host.Outcome State Fault Refusal :=
  whenRunning s fun c =>
    match videoEntry s with
    | .direct _ => .refused .videoEntryDirect
    | .delegate h => .next (handlerWrite h (windowAddress a) d (arb c s))

/-- `MW.BSEL` (R117): the call `BSHIFT(BANK, D)` gives the new BANK, no `ARB()`; the low 8 address bits are
ignored. -/
def execMwBsel (_a : Addr) (d : Byte) (s : State) : Host.Outcome State Fault Refusal :=
  running s fun _ => callBshift s d

/-- `MR.CUNUSED` (R118): ends in `UMR`. -/
def execMrCunused (_a : Addr) (s : State) : Host.Outcome State Fault Refusal :=
  running s fun _ => unusedRead s

/-- `MW.CUNUSED` (R119): ends in `UMW`. -/
def execMwCunused (_a : Addr) (_d : Byte) (s : State) : Host.Outcome State Fault Refusal :=
  running s fun _ => unusedWrite s

/-- `MR.BANK` (R120): `ARB()` first, whatever the entry; then the entry of the effective address. -/
def execMrBank (a : Addr) (s : State) : Host.Outcome State Fault Refusal :=
  running s fun c => entryRead (bankedEntry s a) (effectiveAddress s.bank a) (arb c s)

/-- `MW.BANK` (R121). -/
def execMwBank (a : Addr) (d : Byte) (s : State) : Host.Outcome State Fault Refusal :=
  running s fun c => entryWrite (bankedEntry s a) (effectiveAddress s.bank a) d (arb c s)

end Sys2Proof.Machine
end

