-- ==== Sys2Proof/Machine/PortCommon.lean ====
section
/-! DEFINITION. The port operations several variants share (42_port_common.md R157 to R164). None
runs `ARB()` (R155). -/

namespace Sys2Proof.Machine

/-- `PR.VDATA` (R157): `VID.dataRead()`. -/
def execPrVdata (_p : Port) (s : State) : Host.Outcome State Fault Refusal :=
  running s fun _ => callRead s .vidDataRead

/-- `PW.VDATA` (R158): `VID.dataWrite(D)`. -/
def execPwVdata (_p : Port) (d : Byte) (s : State) : Host.Outcome State Fault Refusal :=
  running s fun _ => callWrite s (.vidDataWrite d)

/-- `PR.VCTRL` (R162): `VID.ctrlRead()`. -/
def execPrVctrl (_p : Port) (s : State) : Host.Outcome State Fault Refusal :=
  running s fun _ => callRead s .vidCtrlRead

/-- `PW.VCTRL` (R164): `VID.ctrlWrite(D)`. -/
def execPwVctrl (_p : Port) (d : Byte) (s : State) : Host.Outcome State Fault Refusal :=
  running s fun _ => callWrite s (.vidCtrlWrite d)

/-- `PW.SGEN` (R159): `SGEN.write(CCYC, D)`, no stall. -/
def execPwSgen (_p : Port) (d : Byte) (s : State) : Host.Outcome State Fault Refusal :=
  running s fun c => callWrite s (.sgenWrite c d)

/-- `PR.HV` (R160): `HVBYTE(VID.hv(CCYC), p)`. -/
def execPrHv (p : Port) (s : State) : Host.Outcome State Fault Refusal :=
  running s fun c => callHv s (c : Int) p

end Sys2Proof.Machine
end

