-- ==== Sys2Proof/Machine/PortFirstGen.lean ====
section
/-! DEFINITION. The port table of FirstGenMode (47_port_firstgen.md R246 to R253). -/

namespace Sys2Proof.Machine

/-- `PR.4.B00` (R246): ends in `UPR`. -/
def execPr4B00 (_p : Port) (s : State) : Host.Outcome State Fault Refusal :=
  running s fun _ => unusedPortRead s

/-- `PW.4.B00` (R248): ends in `UPW`. -/
def execPw4B00 (_p : Port) (_d : Byte) (s : State) : Host.Outcome State Fault Refusal :=
  running s fun _ => unusedPortWrite s

/-- `PR.4.B40` (R249): ends in `UPR`; no `VID.hv` call. -/
def execPr4B40 (_p : Port) (s : State) : Host.Outcome State Fault Refusal :=
  running s fun _ => unusedPortRead s

/-- `PW.4.SGEN` (R247): `SGEN.write` with the CCYC of entry, then `CCYC <- CCYC + 480`. -/
def execPw4Sgen (_p : Port) (d : Byte) (s : State) : Host.Outcome State Fault Refusal :=
  running s fun c => addCycles 480 (callWrite s (.sgenWrite c d))

/-- `PR.4.VCTRL` (R252): `VID.ctrlReadOld()`. -/
def execPr4Vctrl (_p : Port) (s : State) : Host.Outcome State Fault Refusal :=
  running s fun _ => callRead s .vidCtrlReadOld

/-- `PW.4.VCTRL` (R253): `VID.ctrlWriteOld(D)`. -/
def execPw4Vctrl (_p : Port) (d : Byte) (s : State) : Host.Outcome State Fault Refusal :=
  running s fun _ => callWrite s (.vidCtrlWriteOld d)

/-- `PR.4.PER` (R250): `PER.read(p & 1)`. -/
def execPr4Per (p : Port) (s : State) : Host.Outcome State Fault Refusal :=
  running s fun _ => callRead s (.perRead (parity p))

/-- `PW.4.DEF` (R251): ends in `UPW`. -/
def execPw4Def (_p : Port) (_d : Byte) (s : State) : Host.Outcome State Fault Refusal :=
  running s fun _ => unusedPortWrite s

end Sys2Proof.Machine
end

