-- ==== Sys2Proof/Machine/PortHandheld.lean ====
section
/-! DEFINITION. The port table of HandheldMode (44_port_handheld.md R190 to R197). -/

namespace Sys2Proof.Machine

/-- `PR.1.HIO` (R190): `HIO.read(p)` with the full port number. -/
def execPr1Hio (p : Port) (s : State) : Host.Outcome State Fault Refusal :=
  running s fun _ => callRead s (.hioRead p)

/-- `PW.1.HIO` (R191): `HIO.write(p, D)`. -/
def execPw1Hio (p : Port) (d : Byte) (s : State) : Host.Outcome State Fault Refusal :=
  running s fun _ => callWrite s (.hioWrite p d)

/-- `PR.1.PER3E` (R192): what the parameter `HANDHELD_3E3F_READ` says (D23). -/
def execPr1Per3E (p : Port) (s : State) : Host.Outcome State Fault Refusal :=
  running s fun _ =>
    match s.prm.handheld3E3FRead with
    | .peripheral => callRead s (.perRead (parity p))
    | .unused => unusedPortRead s

/-- `PW.1.PER3E` (R193): `PER.write(p & 1, D, OFS)` with this variant's offset; SSR may change (R40). -/
def execPw1Per3E (p : Port) (d : Byte) (s : State) : Host.Outcome State Fault Refusal :=
  running s fun _ => callPerWrite s p d s.prm.ofsHandheld

/-- `PR.1.B00` (R194): ends in `UPR`. -/
def execPr1B00 (_p : Port) (s : State) : Host.Outcome State Fault Refusal :=
  running s fun _ => unusedPortRead s

/-- `PW.1.B00` (R195): ends in `UPW`. -/
def execPw1B00 (_p : Port) (_d : Byte) (s : State) : Host.Outcome State Fault Refusal :=
  running s fun _ => unusedPortWrite s

/-- `PR.1.DEF` (R196): ends in `UPR`, whatever the FM flag. -/
def execPr1Def (_p : Port) (s : State) : Host.Outcome State Fault Refusal :=
  running s fun _ => unusedPortRead s

/-- `PW.1.DEF` (R197): ends in `UPW`, whatever the FM flag. -/
def execPw1Def (_p : Port) (_d : Byte) (s : State) : Host.Outcome State Fault Refusal :=
  running s fun _ => unusedPortWrite s

end Sys2Proof.Machine
end

