-- ==== Sys2Proof/Machine/PortLegacy.lean ====
section
/-! DEFINITION. The port table of LegacyConsoleMode (46_port_legacy.md R231 to R239). -/

namespace Sys2Proof.Machine

/-- `PR.3.B00` (R231): ends in `UPR`. -/
def execPr3B00 (_p : Port) (s : State) : Host.Outcome State Fault Refusal :=
  running s fun _ => unusedPortRead s

/-- `PW.3.B00` (R232): ends in `UPW`. -/
def execPw3B00 (_p : Port) (_d : Byte) (s : State) : Host.Outcome State Fault Refusal :=
  running s fun _ => unusedPortWrite s

/-- `PR.3.FM` (R234): `FM.read(CCYC, p & 3)` (R161). -/
def execPr3Fm (p : Port) (s : State) : Host.Outcome State Fault Refusal :=
  running s fun c => callRead s (.fmRead c (fmReg p))

/-- `PW.3.FM` (R235): the FM write, then the mute call if the port's second gate bit is set (D38, D21). -/
def execPw3Fm (p : Port) (d : Byte) (s : State) : Host.Outcome State Fault Refusal :=
  running s fun c =>
    let s1 := callWrite s (.fmWrite c (fmReg p) d)
    if p.getLsbD s.prm.legMuteBit then s1.record (muteCall s c (legacyMuteBit d)) else s1

/-- `PR.3.DEF` (R236): ends in `UPR`. -/
def execPr3Def (_p : Port) (s : State) : Host.Outcome State Fault Refusal :=
  running s fun _ => unusedPortRead s

/-- `PW.3.DEF` (R237): ends in `UPW`. -/
def execPw3Def (_p : Port) (_d : Byte) (s : State) : Host.Outcome State Fault Refusal :=
  running s fun _ => unusedPortWrite s

/-- `PR.3.PER` (R238): `PER.read(p & 1)`, no gating. -/
def execPr3Per (p : Port) (s : State) : Host.Outcome State Fault Refusal :=
  running s fun _ => callRead s (.perRead (parity p))

/-- `PW.3.PER` (R239): `PER.write(p & 1, D, OFS)` with this variant's offset; SSR may change (R40). -/
def execPw3Per (p : Port) (d : Byte) (s : State) : Host.Outcome State Fault Refusal :=
  running s fun _ => callPerWrite s p d s.prm.ofsLegacy

end Sys2Proof.Machine
end

