-- ==== Sys2Proof/Machine/PortPrimary.lean ====
section
/-! DEFINITION. The port table of PrimaryConsoleMode (43_port_primary.md R176 to R183). -/

namespace Sys2Proof.Machine

/-- `PW.0.PER` (R176): `PER.write(p & 1, D, OFS)` with this variant's offset; SSR may change (R40). -/
def execPw0Per (p : Port) (d : Byte) (s : State) : Host.Outcome State Fault Refusal :=
  running s fun _ => callPerWrite s p d s.prm.ofsPrimary

/-- `PR.0.B00` (R177): ends in `UPR`. -/
def execPr0B00 (_p : Port) (s : State) : Host.Outcome State Fault Refusal :=
  running s fun _ => unusedPortRead s

/-- `PR.0.HV` (R178): the H-V counter 15 cycles in the past; the integer `CCYC - 15` may be negative
(D19, U11). -/
def execPr0Hv (p : Port) (s : State) : Host.Outcome State Fault Refusal :=
  running s fun c => callHv s ((c : Int) - 15) p

/-- `PR.0.FM` (R180): `FM.read(CCYC, p & 3)` (R161). -/
def execPr0Fm (p : Port) (s : State) : Host.Outcome State Fault Refusal :=
  running s fun c => callRead s (.fmRead c (fmReg p))

/-- `PW.0.FM` (R181): `FM.write(CCYC, p & 3, D)` (R161). -/
def execPw0Fm (p : Port) (d : Byte) (s : State) : Host.Outcome State Fault Refusal :=
  running s fun c => callWrite s (.fmWrite c (fmReg p) d)

/-- `PR.0.DEF` (R182): ends in `UPR`. -/
def execPr0Def (_p : Port) (s : State) : Host.Outcome State Fault Refusal :=
  running s fun _ => unusedPortRead s

/-- `PW.0.DEF` (R183): ends in `UPW`. -/
def execPw0Def (_p : Port) (_d : Byte) (s : State) : Host.Outcome State Fault Refusal :=
  running s fun _ => unusedPortWrite s

end Sys2Proof.Machine
end

