-- ==== Sys2Proof/Machine/PortStandard.lean ====
section
/-! DEFINITION. The port table of StandardConsoleMode (45_port_standard.md R205 to R218). -/

namespace Sys2Proof.Machine

/-- `PW.2.PER` (R205): `PER.write(p & 1, D, OFS)` with this variant's offset; SSR may change (R40). -/
def execPw2Per (p : Port) (d : Byte) (s : State) : Host.Outcome State Fault Refusal :=
  running s fun _ => callPerWrite s p d s.prm.ofsStandard

/-- `PW.2.B00` (R206): ends in `UPW`. -/
def execPw2B00 (_p : Port) (_d : Byte) (s : State) : Host.Outcome State Fault Refusal :=
  running s fun _ => unusedPortWrite s

/-- `PR.2.B00` (R207): ends in `UPR` (a write-only register). -/
def execPr2B00 (_p : Port) (s : State) : Host.Outcome State Fault Refusal :=
  running s fun _ => unusedPortRead s

/-- `PR.2.TFM` (R209): `FM.read(CCYC, p & 3)` (R161). -/
def execPr2Tfm (p : Port) (s : State) : Host.Outcome State Fault Refusal :=
  running s fun c => callRead s (.fmRead c (fmReg p))

/-- `PW.2.TFM` (R210): `FM.write(CCYC, p & 3, D)` (R161). -/
def execPw2Tfm (p : Port) (d : Byte) (s : State) : Host.Outcome State Fault Refusal :=
  running s fun c => callWrite s (.fmWrite c (fmReg p) d)

/-- `PW.2.ACTL` (R211): the mute call, the FM write at register 2, and SSR, in this order (D38). -/
def execPw2Actl (_p : Port) (d : Byte) (s : State) : Host.Outcome State Fault Refusal :=
  running s fun c =>
    (callWrite (s.record (muteCall s c (audioControlBit d))) (.fmWrite c 2#2 d)).setSsr d

/-- `PR.2.XFM` (R212): `FM.read(CCYC, p & 3)` (R161). -/
def execPr2Xfm (p : Port) (s : State) : Host.Outcome State Fault Refusal :=
  running s fun c => callRead s (.fmRead c (fmReg p))

/-- `PW.2.XFM` (R213): `FM.write(CCYC, p & 3, D)` (R161); no mute change, no SSR write. -/
def execPw2Xfm (p : Port) (d : Byte) (s : State) : Host.Outcome State Fault Refusal :=
  running s fun c => callWrite s (.fmWrite c (fmReg p) d)

/-- `PR.2.PERG` (R216): `PER.read(p & 1)`, SSR read by the decode only. -/
def execPr2Perg (p : Port) (s : State) : Host.Outcome State Fault Refusal :=
  running s fun _ => callRead s (.perRead (parity p))

/-- `PR.2.DEF` (R217): ends in `UPR`. -/
def execPr2Def (_p : Port) (s : State) : Host.Outcome State Fault Refusal :=
  running s fun _ => unusedPortRead s

/-- `PW.2.DEF` (R218): ends in `UPW`. -/
def execPw2Def (_p : Port) (_d : Byte) (s : State) : Host.Outcome State Fault Refusal :=
  running s fun _ => unusedPortWrite s

end Sys2Proof.Machine
end

