-- ==== Sys2Proof/Machine/Dispatch.lean ====
section
/-! DEFINITION. One arm per constructor of `Instr`, each one direct call of its meaning. -/

namespace Sys2Proof.Machine

def exec (i : Instr) (s : State) : Host.Outcome State Fault Refusal :=
  match i with
  | .mrRam a => Sys2Proof.Machine.execMrRam a s
  | .mwRam a d => Sys2Proof.Machine.execMwRam a d s
  | .mrSnd a => Sys2Proof.Machine.execMrSnd a s
  | .mwSnd a d => Sys2Proof.Machine.execMwSnd a d s
  | .mrVid a => Sys2Proof.Machine.execMrVid a s
  | .mwVid a d => Sys2Proof.Machine.execMwVid a d s
  | .mwBsel a d => Sys2Proof.Machine.execMwBsel a d s
  | .mrCunused a => Sys2Proof.Machine.execMrCunused a s
  | .mwCunused a d => Sys2Proof.Machine.execMwCunused a d s
  | .mrBank a => Sys2Proof.Machine.execMrBank a s
  | .mwBank a d => Sys2Proof.Machine.execMwBank a d s
  | .prVdata p => Sys2Proof.Machine.execPrVdata p s
  | .pwVdata p d => Sys2Proof.Machine.execPwVdata p d s
  | .prVctrl p => Sys2Proof.Machine.execPrVctrl p s
  | .pwVctrl p d => Sys2Proof.Machine.execPwVctrl p d s
  | .pwSgen p d => Sys2Proof.Machine.execPwSgen p d s
  | .prHv p => Sys2Proof.Machine.execPrHv p s
  | .pw0Per p d => Sys2Proof.Machine.execPw0Per p d s
  | .pr0B00 p => Sys2Proof.Machine.execPr0B00 p s
  | .pr0Hv p => Sys2Proof.Machine.execPr0Hv p s
  | .pr0Fm p => Sys2Proof.Machine.execPr0Fm p s
  | .pw0Fm p d => Sys2Proof.Machine.execPw0Fm p d s
  | .pr0Def p => Sys2Proof.Machine.execPr0Def p s
  | .pw0Def p d => Sys2Proof.Machine.execPw0Def p d s
  | .pr1Hio p => Sys2Proof.Machine.execPr1Hio p s
  | .pw1Hio p d => Sys2Proof.Machine.execPw1Hio p d s
  | .pr1Per3E p => Sys2Proof.Machine.execPr1Per3E p s
  | .pw1Per3E p d => Sys2Proof.Machine.execPw1Per3E p d s
  | .pr1B00 p => Sys2Proof.Machine.execPr1B00 p s
  | .pw1B00 p d => Sys2Proof.Machine.execPw1B00 p d s
  | .pr1Def p => Sys2Proof.Machine.execPr1Def p s
  | .pw1Def p d => Sys2Proof.Machine.execPw1Def p d s
  | .pw2Per p d => Sys2Proof.Machine.execPw2Per p d s
  | .pw2B00 p d => Sys2Proof.Machine.execPw2B00 p d s
  | .pr2B00 p => Sys2Proof.Machine.execPr2B00 p s
  | .pr2Tfm p => Sys2Proof.Machine.execPr2Tfm p s
  | .pw2Tfm p d => Sys2Proof.Machine.execPw2Tfm p d s
  | .pw2Actl p d => Sys2Proof.Machine.execPw2Actl p d s
  | .pr2Xfm p => Sys2Proof.Machine.execPr2Xfm p s
  | .pw2Xfm p d => Sys2Proof.Machine.execPw2Xfm p d s
  | .pr2Perg p => Sys2Proof.Machine.execPr2Perg p s
  | .pr2Def p => Sys2Proof.Machine.execPr2Def p s
  | .pw2Def p d => Sys2Proof.Machine.execPw2Def p d s
  | .pr3B00 p => Sys2Proof.Machine.execPr3B00 p s
  | .pw3B00 p d => Sys2Proof.Machine.execPw3B00 p d s
  | .pr3Fm p => Sys2Proof.Machine.execPr3Fm p s
  | .pw3Fm p d => Sys2Proof.Machine.execPw3Fm p d s
  | .pr3Def p => Sys2Proof.Machine.execPr3Def p s
  | .pw3Def p d => Sys2Proof.Machine.execPw3Def p d s
  | .pr3Per p => Sys2Proof.Machine.execPr3Per p s
  | .pw3Per p d => Sys2Proof.Machine.execPw3Per p d s
  | .pr4B00 p => Sys2Proof.Machine.execPr4B00 p s
  | .pw4B00 p d => Sys2Proof.Machine.execPw4B00 p d s
  | .pr4B40 p => Sys2Proof.Machine.execPr4B40 p s
  | .pw4Sgen p d => Sys2Proof.Machine.execPw4Sgen p d s
  | .pr4Vctrl p => Sys2Proof.Machine.execPr4Vctrl p s
  | .pw4Vctrl p d => Sys2Proof.Machine.execPw4Vctrl p d s
  | .pr4Per p => Sys2Proof.Machine.execPr4Per p s
  | .pw4Def p d => Sys2Proof.Machine.execPw4Def p d s
  | .arb => Sys2Proof.Machine.execArb s
  | .umr ea => Sys2Proof.Machine.execUmr ea s
  | .umw ea d => Sys2Proof.Machine.execUmw ea d s
  | .lkr ea => Sys2Proof.Machine.execLkr ea s
  | .lkw ea d => Sys2Proof.Machine.execLkw ea d s
  | .upr p => Sys2Proof.Machine.execUpr p s
  | .upw p d => Sys2Proof.Machine.execUpw p d s

end Sys2Proof.Machine
end

