-- ==== Sys2Proof/Machine/HostMoves.lean ====
section
/-! DEFINITION. What the host does between two atomic steps (60_exceptions.md R298 to R301,
70_reset_and_hazards.md R310 to R313). -/

namespace Sys2Proof.Machine

/-- A value of BANK the host may install: its low 15 bits are zero (duty H11). -/
def bankOf (high : BitVec 9) : PAddr := high ++ 0#15

/-- H2: the coprocessor and the primary CPU execute; a halted coprocessor makes no progress (R295). -/
def hostAdvance (dc dp : Nat) (s : State) : State := (addCycles dc s).setPcyc (s.pcyc + dp)

/-- Frame boundary (R301, R312): the counters take the frame driver's values, but a halted CCYC stays
NEVER; nothing else changes but the owed bit. -/
def hostFrame (ccyc pcyc : Nat) (clear : Bool) (s : State) : State :=
  { s with
    ccyc := match s.ccyc with
      | .num _ => .num ccyc
      | .never => .never
    pcyc := pcyc
    run := if clear then clearOwed s.prm.owedBit s.run else s.run }

/-- External reset (R298, R311): a finite CCYC ends a halt; BT, SSR, the RAM and the buffers are each kept
or replaced; CFG and PRM are the session's and stay (R6, R7). -/
def hostReset (r : ResetChoice) (s : State) : State :=
  { s with
    ccyc := .num r.ccyc
    pcyc := r.pcyc
    dma := r.dma
    run := r.run % 2 ^ s.prm.runWidth
    bank := bankOf r.bankHigh
    bt := r.bt.getD s.bt
    ssr := r.ssr.getD s.ssr
    ram := match r.redrawRam with
      | some _ => []
      | none => s.ram
    bufs := match r.redrawBufs with
      | some _ => []
      | none => s.bufs
    ramDraw := r.redrawRam.getD s.ramDraw
    bufDraw := r.redrawBufs.getD s.bufDraw
    ret := none }

/-- The moves a host has (R300: "a model has no move for a host that breaks one"): one that writes the
BankTable leaves the video device's entry a Delegate (H10, R323). The other duties are in the form of the
moves. -/
def keepsDuties (m : HostMove) (s : State) : Bool :=
  match m with
  | .remap index entry => index != s.prm.vidBtIndex || isDelegate entry
  | .externalReset r =>
    match r.bt with
    | some table => isDelegate (btEntry table s.prm.vidBtIndex)
    | none => true
  | .setDma _ | .advance _ _ | .frame _ _ _ | .setRun _ | .pokeRam _ _ | .pokeBuf _ _ _ | .setSsr _
  | .reconfig _ _ | .outside _ => true

/-- One move of the host (R300, H1 to H9; R40). -/
def hostMove (m : HostMove) (s : State) : State :=
  match m with
  | .setDma dma => { s with dma := dma }
  | .advance dc dp => hostAdvance dc dp s
  | .frame ccyc pcyc clear => hostFrame ccyc pcyc clear s
  | .setRun run => { s with run := replaceOthers s.prm.runWidth s.prm.owedBit s.run run }
  | .pokeRam offset v => s.writeRam offset v
  | .pokeBuf buf offset v => s.writeBuf buf offset v
  | .remap index entry => { s with bt := s.bt.set index.toNat entry index.isLt }
  | .setSsr v => s.setSsr v
  | .reconfig fm amp => { s with cfg := { s.cfg with fmEnabled := fm, amplifierLevel := amp } }
  | .externalReset r => hostReset r s
  | .outside ext => { s with ext := ext }

/-- A new session (R310, R313): CFG, PRM and BT as the host supplies them, nothing written or called. -/
def freshSession (cfg : Cfg) (prm : Prm) (bt : BankTable) (ext : Nat) : State :=
  { State.reset with
    cfg := cfg
    prm := prm
    bt := bt
    ext := ext }

/-- Session start (R311): a fresh session in the state an external reset leaves; none where the host
breaks H10, with parameters outside R7 or with a Direct entry for the video device. -/
def sessionStart (cfg : Cfg) (prm : Prm) (bt : BankTable) (ext : Nat) (r : ResetChoice) : Option State :=
  let start := hostReset r (freshSession cfg prm bt ext)
  if prm.Admissible ∧ isDelegate (videoEntry start) = true then some start else none

end Sys2Proof.Machine
end

