-- ==== Sys2Proof/Machine/Fetch.lean ====
section
/-! DEFINITION. How the next transaction comes to `step`: the block fetches nothing (10_state.md R35),
it is handed transactions, and the head of `inbox` is the next one. -/

namespace Sys2Proof.Machine

/-- A transaction handed over next, in the state's session. -/
def submit (s : State) (t : Transaction) : State :=
  s.setInbox (.txn (wordOf s.cfg.variant t) :: s.inbox)

/-- A word handed over next. A port word names the session's variant (R81), so the session is one of
that variant; nothing else changes. -/
def placeWord (s : State) (w : TxnWord) : State :=
  { s with
    cfg := { s.cfg with variant := sessionVariant s.cfg.variant w }
    inbox := .txn w :: s.inbox }

end Sys2Proof.Machine
end

