-- ==== Sys2Proof/Machine/Step.lean ====
section
/-! DEFINITION. One step: the next input of `inbox` is taken and performed, a transaction as the
operation its word selects, a move of the host as R300 gives it (a move that breaks a duty is none). With
nothing to do the block does nothing: it has no agent of its own (R296). -/

namespace Sys2Proof.Machine

/-- One atomic step (00_scope.md R11). -/
def step (s : State) : Host.Outcome State Fault Refusal :=
  match s.inbox with
  | [] => .next s
  | .txn w :: rest =>
    match decode s.ctx w with
    | .ok i => exec i (s.setInbox rest)
    | .error why => .refused (.undecodable why)
  | .move m :: rest =>
    if keepsDuties m s then .next (hostMove m (s.setInbox rest)) else .refused .hostBreaksDuty

/-- `s` with the instruction of a table word placed where `step` takes its next one. -/
def State.withFetchWord (s : State) (nbits w : Nat) : State := placeWord s (tableWord nbits w)

end Sys2Proof.Machine
end

