-- ==== Sys2Proof/Safety.lean ====
section
/-! DEFINITION. The terms the claims use: the invariant every step keeps, halted and running, the order
of the cycle counters, the closed form of `ARB`, and which operations belong to which variant. -/

namespace Sys2Proof.Machine

/-- `BANK[14:0] = 0` (10_state.md R33). -/
def bankAligned (b : PAddr) : Bool := b.extractLsb' 0 15 == 0#15

/-- The invariant: admissible parameters (R7), the video device's entry a Delegate (H10, R323), an aligned
BANK (R33), RUN of `RUN_WIDTH` bits (R24), RAM of 8192 bytes (R31), and both memories in canonical form. -/
abbrev Inv (s : State) : Prop :=
  s.prm.Admissible ∧
  isDelegate (videoEntry s) = true ∧
  bankAligned s.bank = true ∧
  s.run < 2 ^ s.prm.runWidth ∧
  memWf s.ram = true ∧ memBelow 8192 s.ram = true ∧
  memWf s.bufs = true

/-- The block is halted (R41). -/
abbrev Halted (s : State) : Prop := s.ccyc = .never

/-- The block is running, its counter at `c`. -/
abbrev RunningAt (s : State) (c : Nat) : Prop := s.ccyc = .num c

/-- The order of CCYC's domain (R21): NEVER is greater than every number. -/
def Cycle.le (x y : Cycle) : Bool :=
  match x, y with
  | .num a, .num b => decide (a ≤ b)
  | _, .never => true
  | .never, .num _ => false

/-- The end state of `ARB` in one piece (41_arbitration.md R147), entered with `CCYC = c`. -/
def arbResult (s : State) (c : Nat) : State :=
  { s with
    ccyc := .num ((if s.dma.conflictClass < 2 ∧ c < s.dma.endCycle then s.dma.endCycle else c) + 45)
    pcyc := s.pcyc + (if c % 7 < 5 then 70 else 77)
    run :=
      if s.dma.conflictClass < 2 ∧ c < s.dma.endCycle ∧ s.dma.remainingLength ≠ 0 then
        s.run ||| 2 ^ s.prm.owedBit
      else s.run }

/-- In the session of `s` the transaction `t` selects the operation `i` (30_encoding.md R92). -/
abbrev Selects (s : State) (t : Transaction) (i : Instr) : Prop :=
  decode s.ctx (wordOf s.cfg.variant t) = .ok i

/-- The port read and the port write of an 8-bit port number. -/
abbrev portRead (p : Port) : Transaction := .pr (0#8 ++ p)
abbrev portWrite (p : Port) (d : Byte) : Transaction := .pw (0#8 ++ p) d

/-- The four operations that cross onto the shared bus (R140). -/
def crossesSharedBus (i : Instr) : Bool :=
  match i with
  | .mrVid _ | .mwVid _ _ | .mrBank _ | .mwBank _ _ => true
  | _ => false

/-- The entry of the BankTable such an operation reaches (R115, R120). -/
def reachedEntry (s : State) (i : Instr) : Option BtEntry :=
  match i with
  | .mrVid _ => some (btEntry s.bt s.prm.vidBtIndex)
  | .mwVid _ _ => some (btEntry s.bt s.prm.vidBtIndex)
  | .mrBank a => some (btEntry s.bt (btIndex (effectiveAddress s.bank a)))
  | .mwBank a _ => some (btEntry s.bt (btIndex (effectiveAddress s.bank a)))
  | _ => none

/-- The operations that call `PER.write`, which alone among the calls may change SSR (R40). -/
def callsPerWrite (i : Instr) : Bool :=
  match i with
  | .pw0Per _ _ | .pw1Per3E _ _ | .pw2Per _ _ | .pw3Per _ _ => true
  | _ => false

/-- The variant whose table an operation belongs to, where it belongs to one (42_port_common.md R167):
the digit of its name. -/
def ownVariant (i : Instr) : Option Variant :=
  match i with
  | .pw0Per _ _ | .pr0B00 _ | .pr0Hv _ | .pr0Fm _ | .pw0Fm _ _ | .pr0Def _ | .pw0Def _ _ => some .primary
  | .pr1Hio _ | .pw1Hio _ _ | .pr1Per3E _ | .pw1Per3E _ _ | .pr1B00 _ | .pw1B00 _ _ | .pr1Def _
  | .pw1Def _ _ => some .handheld
  | .pw2Per _ _ | .pw2B00 _ _ | .pr2B00 _ | .pr2Tfm _ | .pw2Tfm _ _ | .pw2Actl _ _ | .pr2Xfm _
  | .pw2Xfm _ _ | .pr2Perg _ | .pr2Def _ | .pw2Def _ _ => some .standard
  | .pr3B00 _ | .pw3B00 _ _ | .pr3Fm _ | .pw3Fm _ _ | .pr3Def _ | .pw3Def _ _ | .pr3Per _
  | .pw3Per _ _ => some .legacy
  | .pr4B00 _ | .pw4B00 _ _ | .pr4B40 _ | .pw4Sgen _ _ | .pr4Vctrl _ | .pw4Vctrl _ _ | .pr4Per _
  | .pw4Def _ _ => some .firstGen
  | _ => none

end Sys2Proof.Machine
end

