-- ==== Sys2Proof/Certificates/Slice0/Obligations.lean ====
section
/-! DEFINITION. The statements for the provers, each from numbered rules of spec/. An equation
`exec i s = .next t` with `t` written as an update of `s` gives the result of the instruction, its frame
(every field not named, and so every byte of memory, is unchanged) and that it completes. What a
collaborator answers is a free value of the call and of all it sees then (`State.seen`, log 3): the state of
the block at the call, its own unseen state and the calls made before. A call also moves that unseen state
on, to `Config.extAfter`, a free value of the same (log 3), but for `COP.pc` and `COP.peek`, which only stand
in the record, `s.noteCall call` (R266); where two calls are made the second sees what the first leaves,
`s.record call`. -/

open Sys2Proof Sys2Proof.Machine

/-! ### Encoding -/

/-- R92, R81: every well-formed operation has a word, and the decoder reads it back from that word. -/
def Obligations.DecodeReadsBackEveryEncoding : Prop :=
  ∀ (c : Ctx) (i : Instr), c.prm.Admissible → WellFormed c i = true →
    ∃ w, encode c i = some w ∧ decode c w = .ok i

/-- R81: encoding a decoded word keeps every field of the transaction: space, direction, address or port
number, data byte of a write, and the variant of a port word. -/
def Obligations.EncodingKeepsEveryFieldOfTheWord : Prop :=
  ∀ (c : Ctx) (w : TxnWord) (i : Instr), decode c w = .ok i →
    ∃ e, encode c i = some e ∧ fieldIO e = fieldIO w ∧ fieldW e = fieldW w ∧ fieldSpare e = 0#3 ∧
      (fieldIO w = false → fieldA e = fieldA w ∧ fieldV e = 0#3) ∧
      (fieldIO w = true → fieldA e = 0#8 ++ (fieldA w).extractLsb' 0 8 ∧ fieldV e = fieldV w) ∧
      (fieldW w = true → fieldD e = fieldD w) ∧ (fieldW w = false → fieldD e = 0#8)

/-- R83, R86: what the decoder answers is an operation whose own rule admits the operands. -/
def Obligations.DecodedOperationIsWellFormed : Prop :=
  ∀ (c : Ctx) (w : TxnWord) (i : Instr), c.prm.Admissible → decode c w = .ok i → WellFormed c i = true

/-- R88: no transaction is illegal; each, packed for its session, decodes to the operation it selects,
and a port operand wider than 8 bits, read or written, gives the word of its low byte (R168, the spec's
decision D16, log 14). -/
def Obligations.EveryTransactionDecodes : Prop :=
  ∀ (c : Ctx) (t : Transaction), decode c (wordOf c.cfg.variant t) = .ok (select c t) ∧
    (∀ (port : BitVec 16) (d : Byte),
      wordOf c.cfg.variant (.pr port) = wordOf c.cfg.variant (portRead (port.extractLsb' 0 8)) ∧
      wordOf c.cfg.variant (.pw port d) = wordOf c.cfg.variant (portWrite (port.extractLsb' 0 8) d))

/-- R81: a word is refused exactly when a bit above `TW` is set or it is a port word whose code is not
the session's variant; codes 5 to 7 name none. The three zero bits are the model's packing (log 11). -/
def Obligations.DecodeRefusesOnlyForeignWords : Prop :=
  ∀ (c : Ctx) (w : TxnWord),
    ((∃ i, decode c w = .ok i) ↔
      fieldSpare w = 0#3 ∧ (fieldIO w = true → fieldV w = variantCode c.cfg.variant)) ∧
    (fieldSpare w = 0#3 → fieldIO w = true → 5 ≤ (fieldV w).toNat →
      decode c w = .error .noSuchVariant)

/-- R92: for every word of the session exactly one row of opcode_table.json of format MEM or PORT has
`(TW & mask) = match` and a true condition, and it is the decoded operation's row. -/
def Obligations.ExactlyOneTableRowIsSelected : Prop :=
  ∀ (c : Ctx) (w : TxnWord) (i : Instr), c.prm.Admissible → decode c w = .ok i →
    selectedRows c w = [mnemonicOf i]

/-- Words written out bit by bit decode to the operations they stand for (95_test_vectors.md), one of each
family. Bits 20 to 0 are `TW` of R81; the data byte of a write in bits 31 to 24 and the zeros of bits 23 to
21 are the model's choice (log 11), and the default parameters are the family's (log 6). -/
def Obligations.SampleWordsDecode : Prop :=
  (∀ v : Variant, decode { Ctx.launch with cfg := { Cfg.launch with variant := v } }
      0b00000000000000000010000100100011#32 = .ok (.mrRam 0x2123#16)) ∧
  decode Ctx.launch 0b11111110000000010110000010101011#32 = .ok (.mwBsel 0x60AB#16 0xFE#8) ∧
  decode Ctx.launch 0b00000000000000000111111100000100#32 = .ok (.mrVid 0x7F04#16) ∧
  decode Ctx.launch 0b00000000000000100000000010111110#32 = .ok (.prVdata 0xBE#8) ∧
  decode Ctx.launch 0b00000101000000110000000000000001#32 = .ok (.pw0Per 0x01#8 0x05#8) ∧
  decode { Ctx.launch with cfg := { Cfg.launch with variant := .handheld } }
      0b10101000000001110000000000111110#32 = .ok (.pw1Per3E 0x3E#8 0xA8#8) ∧
  decode { Ctx.launch with cfg := { Cfg.launch with variant := .standard, regionIsT := true } }
      0b00000010000010110000000011110010#32 = .ok (.pw2Actl 0xF2#8 0x02#8) ∧
  decode { Ctx.launch with cfg := { Cfg.launch with variant := .legacy } }
      0b00000001000011110000000011110010#32 = .ok (.pw3Fm 0xF2#8 0x01#8) ∧
  decode { Ctx.launch with cfg := { Cfg.launch with variant := .firstGen } }
      0b10011111000100110000000001000001#32 = .ok (.pw4Sgen 0x41#8 0x9F#8)

/-- R83: the memory decode, octant by octant and in Region C page by page, the same in all five variants
(R110). It rests on the spec's own decisions (log 14): Regions B, C and D by octant (D1), one bank-select
page whose read is unused (D3), the same map in every variant (D32). -/
def Obligations.MemoryDecodeMap : Prop :=
  ∀ (s : State) (a : Addr) (d : Byte), s.prm.vselByte ≠ s.prm.bselByte →
    (a.toNat < 0x4000 → Selects s (.mr a) (.mrRam a) ∧ Selects s (.mw a d) (.mwRam a d)) ∧
    (0x4000 ≤ a.toNat ∧ a.toNat < 0x6000 →
      Selects s (.mr a) (.mrSnd a) ∧ Selects s (.mw a d) (.mwSnd a d)) ∧
    (0x6000 ≤ a.toNat ∧ a.toNat < 0x8000 ∧ a.extractLsb' 8 8 = s.prm.vselByte →
      Selects s (.mr a) (.mrVid a) ∧ Selects s (.mw a d) (.mwVid a d)) ∧
    (0x6000 ≤ a.toNat ∧ a.toNat < 0x8000 ∧ a.extractLsb' 8 8 = s.prm.bselByte →
      Selects s (.mr a) (.mrCunused a) ∧ Selects s (.mw a d) (.mwBsel a d)) ∧
    (0x6000 ≤ a.toNat ∧ a.toNat < 0x8000 ∧ a.extractLsb' 8 8 ≠ s.prm.vselByte ∧
        a.extractLsb' 8 8 ≠ s.prm.bselByte →
      Selects s (.mr a) (.mrCunused a) ∧ Selects s (.mw a d) (.mwCunused a d)) ∧
    (0x8000 ≤ a.toNat → Selects s (.mr a) (.mrBank a) ∧ Selects s (.mw a d) (.mwBank a d))

/-- R85: the five buckets by port number. -/
def Obligations.PortBucketMap : Prop :=
  ∀ p : Port, bucket p =
    if p.toNat < 0x40 then .b00
    else if p.toNat < 0x80 then .b40
    else if p.toNat < 0xC0 then (if p.toNat % 2 = 0 then .vdata else .vctrl)
    else .dflt

/-- R167: an operation of one variant's table is never selected in a session of another; the shared
operations are selected only in the variants that have them. -/
def Obligations.VariantIsolation : Prop :=
  ∀ (c : Ctx) (w : TxnWord) (i : Instr), decode c w = .ok i →
    (∀ v, ownVariant i = some v → c.cfg.variant = v) ∧
    (∀ p, i = .prVctrl p → c.cfg.variant ≠ .firstGen) ∧
    (∀ p d, i = .pwVctrl p d → c.cfg.variant ≠ .firstGen) ∧
    (∀ p d, i = .pwSgen p d → c.cfg.variant ≠ .firstGen) ∧
    (∀ p, i = .prHv p → c.cfg.variant ≠ .primary ∧ c.cfg.variant ≠ .firstGen)

/-! ### The step -/

/-- A step runs the decoded operation: when the next input is a word that decodes to `i`, `step` is
`exec` of `i` at the state without that input. -/
def Obligations.StepRunsTheDecodedOperation : Prop :=
  ∀ (s : State) (w : TxnWord) (rest : List Input) (i : Instr),
    s.inbox = .txn w :: rest → decode s.ctx w = .ok i →
    step s = exec i { s with inbox := rest }

/-- R296, R300: with nothing handed to it the block does nothing; a move of the host is performed between
transactions. The host has no move that breaks duty H10: an input that would leave a Direct entry at
`VID_BT_INDEX` is refused by name (log 18). The queue of inputs is the model's (log 1). -/
def Obligations.StepWithoutTransaction : Prop :=
  ∀ s : State,
    (s.inbox = [] → step s = .next s) ∧
    (∀ m rest, s.inbox = .move m :: rest →
      (∀ i buf, m = .remap i (.direct buf) → i ≠ s.prm.vidBtIndex) →
      (∀ r table, m = .externalReset r → r.bt = some table →
        ∃ h, btEntry table s.prm.vidBtIndex = .delegate h) →
      step s = .next (hostMove m { s with inbox := rest })) ∧
    (∀ buf rest, s.inbox = .move (.remap s.prm.vidBtIndex (.direct buf)) :: rest →
      step s = .refused .hostBreaksDuty) ∧
    (∀ r table buf rest, s.inbox = .move (.externalReset r) :: rest → r.bt = some table →
      btEntry table s.prm.vidBtIndex = .direct buf → step s = .refused .hostBreaksDuty)

/-- R88, R280: a running block performs every transaction, whatever its address, port, direction or
data, as long as the video device's BankTable entry is a Delegate (duty H10). -/
def Obligations.NoTransactionOfARunningBlockIsRefused : Prop :=
  ∀ (s : State) (t : Transaction) (rest : List Input) (c : Nat) (h : Handler),
    RunningAt s c → btEntry s.bt s.prm.vidBtIndex = .delegate h →
    s.inbox = .txn (wordOf s.cfg.variant t) :: rest →
    ∃ s', step s = .next s' ∧ s'.inbox = rest

/-- R287: a halted block accepts no transaction: each is refused under the name `halted`. -/
def Obligations.HaltedBlockAcceptsNoTransaction : Prop :=
  ∀ (s : State) (t : Transaction) (rest : List Input),
    Halted s → s.inbox = .txn (wordOf s.cfg.variant t) :: rest → step s = .refused .halted

/-- R115, R116, R323: with a Direct entry at `VID_BT_INDEX` the video window is refused by name. -/
def Obligations.VideoWindowRefusesADirectEntry : Prop :=
  ∀ (s : State) (c buf : Nat) (a : Addr) (d : Byte),
    RunningAt s c → btEntry s.bt s.prm.vidBtIndex = .direct buf →
    exec (.mrVid a) s = .refused .videoEntryDirect ∧
    exec (.mwVid a d) s = .refused .videoEntryDirect

/-! ### Memory space -/

/-- R111: a word with `TW & 0x3C000 = 0` is `MR.RAM`, which returns `RAM[a & 0x1FFF]` and changes nothing
but the returned value. -/
def Obligations.RamReadReturnsItsByte : Prop :=
  ∀ (s : State) (c : Nat) (a : Addr) (w : TxnWord),
    (fieldSpare w = 0#3 → w &&& 0x03C000#32 = 0x000000#32 → decode s.ctx w = .ok (.mrRam (fieldA w))) ∧
    (RunningAt s c →
      exec (.mrRam a) s = .next { s with ret := some (ramByte s (a.extractLsb' 0 13)) })

/-- R112: a word with `TW & 0x3C000 = 0x10000` is `MW.RAM`, which stores `D` at `a & 0x1FFF`; no other byte
of RAM and no other state changes. The place of the data byte in the word is the model's choice (log 11). -/
def Obligations.RamWriteStoresOneByte : Prop :=
  ∀ (s : State) (c : Nat) (a : Addr) (d : Byte) (w : TxnWord),
    (fieldSpare w = 0#3 → w &&& 0x03C000#32 = 0x010000#32 →
      decode s.ctx w = .ok (.mwRam (fieldA w) (fieldD w))) ∧
    (RunningAt s c →
      ∃ t, exec (.mwRam a d) s = .next t ∧
        ramByte t (a.extractLsb' 0 13) = d ∧
        (∀ o, o ≠ a.extractLsb' 0 13 → ramByte t o = ramByte s o) ∧
        (∀ b o, bufByte t b o = bufByte s b o) ∧
        t = { s with ram := t.ram, ret := none })

/-- R65: after `MW a1, v`, in every later state in which that byte of RAM was not written since, `MR a2` at
any address of the first two eighths with the same low 13 bits returns `v`. -/
def Obligations.RamMirroring : Prop :=
  ∀ (s : State) (c : Nat) (a1 a2 : Addr) (v : Byte) (rest : List Input),
    RunningAt s c → a1.toNat < 0x4000 → a2.toNat < 0x4000 → a1 &&& 0x1FFF#16 = a2 &&& 0x1FFF#16 →
    s.inbox = .txn (wordOf s.cfg.variant (.mw a1 v)) :: rest →
    ∃ s1, step s = .next s1 ∧ s1.inbox = rest ∧
      ∀ (u : State) (c' : Nat) (rest' : List Input), RunningAt u c' →
        ramByte u (a1.extractLsb' 0 13) = ramByte s1 (a1.extractLsb' 0 13) →
        u.inbox = .txn (wordOf u.cfg.variant (.mr a2)) :: rest' →
        ∃ u', step u = .next u' ∧ u'.ret = some v ∧ u'.inbox = rest'

/-- R113, R114: the words with `TW & 0x3E000 = 0x04000` and `0x14000` are `MR.SND` and `MW.SND`; the sound
chip is called with CCYC and `a & 3`, and nothing else changes. That Region B is octant 2 is the spec's
decision D1 (log 14); the place of the data byte in the word is the model's choice (log 11). -/
def Obligations.SoundChipForward : Prop :=
  ∀ (s : State) (c : Nat) (a : Addr) (d : Byte) (w : TxnWord),
    (fieldSpare w = 0#3 → w &&& 0x03E000#32 = 0x004000#32 → decode s.ctx w = .ok (.mrSnd (fieldA w))) ∧
    (fieldSpare w = 0#3 → w &&& 0x03E000#32 = 0x014000#32 →
      decode s.ctx w = .ok (.mwSnd (fieldA w) (fieldD w))) ∧
    (RunningAt s c →
      exec (.mrSnd a) s = .next { s with
        calls := s.calls ++ [.sndRead c (a.extractLsb' 0 2)]
        ext := Config.extAfter s.seen (.sndRead c (a.extractLsb' 0 2))
        ret := some (Config.answer s.seen (.sndRead c (a.extractLsb' 0 2))) } ∧
      exec (.mwSnd a d) s = .next { s with
        calls := s.calls ++ [.sndWrite c (a.extractLsb' 0 2) d]
        ext := Config.extAfter s.seen (.sndWrite c (a.extractLsb' 0 2) d)
        ret := none })

/-- R115: `MR.VID`: `ARB()`, then the entry reserved for the video device with the 16-bit address; an
`HLockup` or `HUnused` delegate ends it in LKR or UMR after `ARB()`. That the call holds the 16-bit address
as a 24-bit number with zeros above, `0#8 ++ a`, is the model's choice (log 16). -/
def Obligations.VideoWindowRead : Prop :=
  ∀ (s : State) (c : Nat) (a : Addr), RunningAt s c →
    (btEntry s.bt s.prm.vidBtIndex = .delegate .video →
      exec (.mrVid a) s = .next { arbResult s c with
        calls := s.calls ++ [.busRead .video (0#8 ++ a)]
        ext := Config.extAfter (arbResult s c).seen (.busRead .video (0#8 ++ a))
        ret := some (Config.answer (arbResult s c).seen (.busRead .video (0#8 ++ a))) }) ∧
    (∀ id, btEntry s.bt s.prm.vidBtIndex = .delegate (.ext id) →
      exec (.mrVid a) s = .next { arbResult s c with
        calls := s.calls ++ [.busRead (.ext id) (0#8 ++ a)]
        ext := Config.extAfter (arbResult s c).seen (.busRead (.ext id) (0#8 ++ a))
        ret := some (Config.answer (arbResult s c).seen (.busRead (.ext id) (0#8 ++ a))) }) ∧
    (btEntry s.bt s.prm.vidBtIndex = .delegate .unused →
      exec (.mrVid a) s = .next { arbResult s c with ret := some 0xFF#8 }) ∧
    (btEntry s.bt s.prm.vidBtIndex = .delegate .lockup →
      exec (.mrVid a) s = .next { arbResult s c with
        ccyc := if s.cfg.forceNoLockup then (arbResult s c).ccyc else .never
        run := if s.cfg.forceNoLockup then (arbResult s c).run else (arbResult s c).run / 2 * 2
        ret := some 0xFF#8 })

/-- R116: `MW.VID`, with LKW and UMW in place of LKR and UMR. That the call holds the 16-bit address as a
24-bit number with zeros above, `0#8 ++ a`, is the model's choice (log 16). -/
def Obligations.VideoWindowWrite : Prop :=
  ∀ (s : State) (c : Nat) (a : Addr) (d : Byte), RunningAt s c →
    (btEntry s.bt s.prm.vidBtIndex = .delegate .video →
      exec (.mwVid a d) s = .next { arbResult s c with
        calls := s.calls ++ [.busWrite .video (0#8 ++ a) d]
        ext := Config.extAfter (arbResult s c).seen (.busWrite .video (0#8 ++ a) d)
        ret := none }) ∧
    (∀ id, btEntry s.bt s.prm.vidBtIndex = .delegate (.ext id) →
      exec (.mwVid a d) s = .next { arbResult s c with
        calls := s.calls ++ [.busWrite (.ext id) (0#8 ++ a) d]
        ext := Config.extAfter (arbResult s c).seen (.busWrite (.ext id) (0#8 ++ a) d)
        ret := none }) ∧
    (btEntry s.bt s.prm.vidBtIndex = .delegate .unused →
      exec (.mwVid a d) s = .next { arbResult s c with ret := none }) ∧
    (btEntry s.bt s.prm.vidBtIndex = .delegate .lockup →
      exec (.mwVid a d) s = .next { arbResult s c with
        ccyc := if s.cfg.forceNoLockup then (arbResult s c).ccyc else .never
        run := if s.cfg.forceNoLockup then (arbResult s c).run else (arbResult s c).run / 2 * 2
        ret := none })

/-- R117, R10: `MW.BSEL` makes the call `BSHIFT(BANK, D)`, stores its answer in BANK and changes nothing
else; the low 15 bits stay zero; an external BSHIFT is any function (a free value), and the serial one (the family's default, log 6)
enters `D[0]` at bit 23 and moves every other bit down by one. -/
def Obligations.BankSelectWrite : Prop :=
  ∀ (s : State) (c : Nat) (a : Addr) (d : Byte), RunningAt s c →
    ∃ t, exec (.mwBsel a d) s = .next t ∧
      t = { s with
        bank := t.bank
        calls := s.calls ++ [.bshift s.bank d]
        ext := Config.extAfter s.seen (.bshift s.bank d)
        ret := none } ∧
      t.bank.extractLsb' 0 15 = 0#15 ∧
      (s.prm.bshift = .external → t.bank.extractLsb' 15 9 = Config.bshiftHigh s.bank d) ∧
      (s.prm.bshift = .serial → t.bank.extractLsb' 15 9 = d.extractLsb' 0 1 ++ s.bank.extractLsb' 16 8)

/-- R118, R119: the words of octant 011 on another page than the video device's, and for a write than the
bank-select page, are unused: a read returns 0xFF, a write does nothing, and no `ARB()` runs. That octant 3
is Region C (D1) and that a read of the bank-select page is unused (D3) are the spec's decisions (log 14);
the place of the data byte in the word is the model's choice (log 11). -/
def Obligations.UnusedRegionC : Prop :=
  ∀ (s : State) (c : Nat) (a : Addr) (d : Byte) (w : TxnWord),
    (fieldSpare w = 0#3 → w &&& 0x03E000#32 = 0x006000#32 → w.extractLsb' 8 8 ≠ s.prm.vselByte →
      decode s.ctx w = .ok (.mrCunused (fieldA w))) ∧
    (fieldSpare w = 0#3 → w &&& 0x03E000#32 = 0x016000#32 → w.extractLsb' 8 8 ≠ s.prm.vselByte →
      w.extractLsb' 8 8 ≠ s.prm.bselByte → decode s.ctx w = .ok (.mwCunused (fieldA w) (fieldD w))) ∧
    (RunningAt s c →
      exec (.mrCunused a) s = .next { s with ret := some 0xFF#8 } ∧
      exec (.mwCunused a d) s = .next { s with ret := none })

/-- R120: `MR.BANK`: `ARB()` first, always; then the entry of `ea = BANK | (a & 0x7FFF)`: a Direct
buffer's byte `ea & 0xFFFF`, or the delegate with `ea`. -/
def Obligations.BankedRead : Prop :=
  ∀ (s : State) (c : Nat) (a : Addr) (ea : PAddr), RunningAt s c →
    ea = s.bank ||| (0#8 ++ (a &&& 0x7FFF#16)) →
    (∀ buf, btEntry s.bt (ea.extractLsb' 16 8) = .direct buf →
      exec (.mrBank a) s = .next { arbResult s c with
        ret := some (bufByte s buf (ea.extractLsb' 0 16)) }) ∧
    (btEntry s.bt (ea.extractLsb' 16 8) = .delegate .video →
      exec (.mrBank a) s = .next { arbResult s c with
        calls := s.calls ++ [.busRead .video ea]
        ext := Config.extAfter (arbResult s c).seen (.busRead .video ea)
        ret := some (Config.answer (arbResult s c).seen (.busRead .video ea)) }) ∧
    (∀ id, btEntry s.bt (ea.extractLsb' 16 8) = .delegate (.ext id) →
      exec (.mrBank a) s = .next { arbResult s c with
        calls := s.calls ++ [.busRead (.ext id) ea]
        ext := Config.extAfter (arbResult s c).seen (.busRead (.ext id) ea)
        ret := some (Config.answer (arbResult s c).seen (.busRead (.ext id) ea)) }) ∧
    (btEntry s.bt (ea.extractLsb' 16 8) = .delegate .unused →
      exec (.mrBank a) s = .next { arbResult s c with ret := some 0xFF#8 }) ∧
    (btEntry s.bt (ea.extractLsb' 16 8) = .delegate .lockup →
      exec (.mrBank a) s = .next { arbResult s c with
        ccyc := if s.cfg.forceNoLockup then (arbResult s c).ccyc else .never
        run := if s.cfg.forceNoLockup then (arbResult s c).run else (arbResult s c).run / 2 * 2
        ret := some 0xFF#8 })

/-- R121, R58: `MW.BANK`: as R120; to a Direct buffer the byte `ea & 0xFFFF` is written unconditionally
and no other byte of any buffer or of RAM changes. -/
def Obligations.BankedWrite : Prop :=
  ∀ (s : State) (c : Nat) (a : Addr) (d : Byte) (ea : PAddr), RunningAt s c →
    ea = s.bank ||| (0#8 ++ (a &&& 0x7FFF#16)) →
    (∀ buf, btEntry s.bt (ea.extractLsb' 16 8) = .direct buf →
      ∃ t, exec (.mwBank a d) s = .next t ∧
        bufByte t buf (ea.extractLsb' 0 16) = d ∧
        (∀ b o, ¬ (b = buf ∧ o = ea.extractLsb' 0 16) → bufByte t b o = bufByte s b o) ∧
        (∀ o, ramByte t o = ramByte s o) ∧
        t = { arbResult s c with bufs := t.bufs, ret := none }) ∧
    (btEntry s.bt (ea.extractLsb' 16 8) = .delegate .video →
      exec (.mwBank a d) s = .next { arbResult s c with
        calls := s.calls ++ [.busWrite .video ea d]
        ext := Config.extAfter (arbResult s c).seen (.busWrite .video ea d)
        ret := none }) ∧
    (∀ id, btEntry s.bt (ea.extractLsb' 16 8) = .delegate (.ext id) →
      exec (.mwBank a d) s = .next { arbResult s c with
        calls := s.calls ++ [.busWrite (.ext id) ea d]
        ext := Config.extAfter (arbResult s c).seen (.busWrite (.ext id) ea d)
        ret := none }) ∧
    (btEntry s.bt (ea.extractLsb' 16 8) = .delegate .unused →
      exec (.mwBank a d) s = .next { arbResult s c with ret := none }) ∧
    (btEntry s.bt (ea.extractLsb' 16 8) = .delegate .lockup →
      exec (.mwBank a d) s = .next { arbResult s c with
        ccyc := if s.cfg.forceNoLockup then (arbResult s c).ccyc else .never
        run := if s.cfg.forceNoLockup then (arbResult s c).run else (arbResult s c).run / 2 * 2
        ret := none })

/-- R56: the effective address of a Region D address is `{ BANK[23:15], a[14:0] }`: for a BANK with its low
15 bits zero the OR never mixes bits, and bit 15 of the address is discarded. -/
def Obligations.BankMath : Prop :=
  ∀ (b : PAddr) (a : Addr), b.extractLsb' 0 15 = 0#15 →
    effectiveAddress b a = b ||| (0#8 ++ (a &&& 0x7FFF#16)) ∧
    (effectiveAddress b a).extractLsb' 0 15 = a.extractLsb' 0 15 ∧
    (effectiveAddress b a).extractLsb' 15 9 = b.extractLsb' 15 9 ∧
    (effectiveAddress b a).toNat = b.toNat + a.toNat % 0x8000 ∧
    effectiveAddress b a = effectiveAddress b (a ^^^ 0x8000#16)

/-! ### The Bus Arbitration Unit -/

/-- R142, R144, R145: the charges of `ARB`: PCYC receives `(((c mod 7) + 72) div 7) * 7`, 70 or 77 by the
table, from the CCYC of entry whether or not it stalled; CCYC receives 45 beyond what the stall left. -/
def Obligations.ArbitrationCharges : Prop :=
  ∀ (s : State) (c : Nat), RunningAt s c →
    ∃ t c', exec .arb s = .next t ∧ RunningAt t c' ∧
      t.pcyc = s.pcyc + (c % 7 + 72) / 7 * 7 ∧
      (c % 7 ≤ 4 → t.pcyc = s.pcyc + 70) ∧ (5 ≤ c % 7 → t.pcyc = s.pcyc + 77) ∧
      ((c % 7 + 72) / 7 * 7) % 7 = 0 ∧
      (s.dma.conflictClass < 2 → c < s.dma.endCycle → c' = s.dma.endCycle + 45) ∧
      (¬ (s.dma.conflictClass < 2 ∧ c < s.dma.endCycle) → c' = c + 45)

/-- R141, R143, R147: the end state of `ARB` and its frame; two runs in a row with the same snapshot stall
at most once: the second adds 45 to CCYC and leaves RUN alone. On a halted block it is refused. -/
def Obligations.ArbitrationEndState : Prop :=
  ∀ s : State,
    (∀ c, RunningAt s c → ∃ t c', exec .arb s = .next t ∧ RunningAt t c' ∧
      c' = (if s.dma.conflictClass < 2 ∧ c < s.dma.endCycle then s.dma.endCycle + 45 else c + 45) ∧
      c + 45 ≤ c' ∧
      t.pcyc = s.pcyc + waitCharge c ∧
      (∀ j, t.run.testBit j = (s.run.testBit j || (decide (j = s.prm.owedBit) &&
        decide (s.dma.conflictClass < 2 ∧ c < s.dma.endCycle ∧ s.dma.remainingLength ≠ 0)))) ∧
      t = { s with ccyc := t.ccyc, pcyc := t.pcyc, run := t.run, ret := none } ∧
      ∃ t2, exec .arb t = .next t2 ∧ RunningAt t2 (c' + 45) ∧ t2.run = t.run) ∧
    (Halted s → exec .arb s = .refused .halted)

/-! ### Port space -/

/-- R157, R158: in all five variants the port words with `TW & 0x0300C1 = 0x020080` and `0x030080` are the
video data port, read and written by one call; nothing else changes. That the
calls carry no cycle is the spec's decision D35 (log 14); the place of the data byte in the word is the
model's choice (log 11). -/
def Obligations.VideoDataPort : Prop :=
  ∀ (s : State) (c : Nat) (p : Port) (d : Byte) (w : TxnWord),
    (fieldSpare w = 0#3 → fieldV w = variantCode s.cfg.variant → w &&& 0x0300C1#32 = 0x020080#32 →
      decode s.ctx w = .ok (.prVdata (w.extractLsb' 0 8))) ∧
    (fieldSpare w = 0#3 → fieldV w = variantCode s.cfg.variant → w &&& 0x0300C1#32 = 0x030080#32 →
      decode s.ctx w = .ok (.pwVdata (w.extractLsb' 0 8) (fieldD w))) ∧
    (RunningAt s c →
      exec (.prVdata p) s = .next { s with
        calls := s.calls ++ [.vidDataRead]
        ext := Config.extAfter s.seen .vidDataRead
        ret := some (Config.answer s.seen .vidDataRead) } ∧
      exec (.pwVdata p d) s = .next { s with
        calls := s.calls ++ [.vidDataWrite d]
        ext := Config.extAfter s.seen (.vidDataWrite d)
        ret := none })

/-- R162, R164: in the variants V0 to V3 the port words with `TW & 0x0300C1 = 0x020081` and `0x030081` are
the video control port, read and written by one call; nothing else changes. That the
calls carry no cycle is the spec's decision D35 (log 14); the place of the data byte in the word is the
model's choice (log 11). -/
def Obligations.VideoControlPort : Prop :=
  ∀ (s : State) (c : Nat) (p : Port) (d : Byte) (w : TxnWord),
    (fieldSpare w = 0#3 → fieldV w = variantCode s.cfg.variant → (fieldV w).toNat ≤ 3 →
      w &&& 0x0300C1#32 = 0x020081#32 → decode s.ctx w = .ok (.prVctrl (w.extractLsb' 0 8))) ∧
    (fieldSpare w = 0#3 → fieldV w = variantCode s.cfg.variant → (fieldV w).toNat ≤ 3 →
      w &&& 0x0300C1#32 = 0x030081#32 → decode s.ctx w = .ok (.pwVctrl (w.extractLsb' 0 8) (fieldD w))) ∧
    (RunningAt s c →
      exec (.prVctrl p) s = .next { s with
        calls := s.calls ++ [.vidCtrlRead]
        ext := Config.extAfter s.seen .vidCtrlRead
        ret := some (Config.answer s.seen .vidCtrlRead) } ∧
      exec (.pwVctrl p d) s = .next { s with
        calls := s.calls ++ [.vidCtrlWrite d]
        ext := Config.extAfter s.seen (.vidCtrlWrite d)
        ret := none })

/-- R252, R253: FirstGenMode's control port is the older one, with calls of its own for each side (the
spec's decision D26). -/
def Obligations.FirstGenVideoControlPort : Prop :=
  ∀ (s : State) (c : Nat) (p : Port) (d : Byte),
    (p &&& 0xC1#8 = 0x81#8 → s.cfg.variant = .firstGen →
      Selects s (portRead p) (.pr4Vctrl p) ∧ Selects s (portWrite p d) (.pw4Vctrl p d)) ∧
    (RunningAt s c →
      exec (.pr4Vctrl p) s = .next { s with
        calls := s.calls ++ [.vidCtrlReadOld]
        ext := Config.extAfter s.seen .vidCtrlReadOld
        ret := some (Config.answer s.seen .vidCtrlReadOld) } ∧
      exec (.pw4Vctrl p d) s = .next { s with
        calls := s.calls ++ [.vidCtrlWriteOld d]
        ext := Config.extAfter s.seen (.vidCtrlWriteOld d)
        ret := none })

/-- R159: a B40 write of variants V0 to V3 is `SGEN.write(CCYC, D)` with no stall. -/
def Obligations.SoundGeneratorWrite : Prop :=
  ∀ (s : State) (c : Nat) (p : Port) (d : Byte),
    (p &&& 0xC0#8 = 0x40#8 → s.cfg.variant ≠ .firstGen → Selects s (portWrite p d) (.pwSgen p d)) ∧
    (RunningAt s c →
      exec (.pwSgen p d) s = .next { s with
        calls := s.calls ++ [.sgenWrite c d]
        ext := Config.extAfter s.seen (.sgenWrite c d)
        ret := none })

/-- R247: FirstGenMode's B40 write carries the CCYC of entry and then stalls CCYC by 480; PCYC and RUN are
not touched. -/
def Obligations.FirstGenSoundWriteStalls480 : Prop :=
  ∀ (s : State) (c : Nat) (p : Port) (d : Byte),
    (p &&& 0xC0#8 = 0x40#8 → s.cfg.variant = .firstGen → Selects s (portWrite p d) (.pw4Sgen p d)) ∧
    (RunningAt s c →
      exec (.pw4Sgen p d) s = .next { s with
        calls := s.calls ++ [.sgenWrite c d]
        ext := Config.extAfter s.seen (.sgenWrite c d)
        ccyc := .num (c + 480)
        ret := none })

/-- R160, R178: the H-V counter is sampled at CCYC, in PrimaryConsoleMode at `CCYC - 15` (an integer,
possibly negative, the spec's decision D19); an odd port returns the low byte, an even one the high byte,
in V1 to V3 by the spec's decision D18 (log 14). -/
def Obligations.HvCounterRead : Prop :=
  ∀ (s : State) (c : Nat) (p : Port),
    (p &&& 0xC0#8 = 0x40#8 → s.cfg.variant = .primary → Selects s (portRead p) (.pr0Hv p)) ∧
    (p &&& 0xC0#8 = 0x40#8 → s.cfg.variant ≠ .primary → s.cfg.variant ≠ .firstGen →
      Selects s (portRead p) (.prHv p)) ∧
    (RunningAt s c →
      exec (.prHv p) s = .next { s with
        calls := s.calls ++ [.vidHv (c : Int)]
        ext := Config.extAfter s.seen (.vidHv (c : Int))
        ret := some (if p.toNat % 2 = 1 then (Config.hvAnswer s.seen (c : Int)).extractLsb' 0 8
          else (Config.hvAnswer s.seen (c : Int)).extractLsb' 8 8) } ∧
      exec (.pr0Hv p) s = .next { s with
        calls := s.calls ++ [.vidHv ((c : Int) - 15)]
        ext := Config.extAfter s.seen (.vidHv ((c : Int) - 15))
        ret := some (if p.toNat % 2 = 1 then (Config.hvAnswer s.seen ((c : Int) - 15)).extractLsb' 0 8
          else (Config.hvAnswer s.seen ((c : Int) - 15)).extractLsb' 8 8) })

/-- R176, R193, R205, R239, R165: the four peripheral-controller writes pass `p & 1`, `D` and their own
variant's offset, unadded (the spec's decision D22, log 14); the controller sees CCYC in the state, and SSR
may take any value (a free value of that state and the call, log 3); nothing else changes. -/
def Obligations.PeripheralControllerWrites : Prop :=
  ∀ (s : State) (c : Nat) (p : Port) (d : Byte), RunningAt s c →
    (∀ (i : Instr) (ofs : Int),
      (i = .pw0Per p d ∧ ofs = s.prm.ofsPrimary) ∨ (i = .pw1Per3E p d ∧ ofs = s.prm.ofsHandheld) ∨
        (i = .pw2Per p d ∧ ofs = s.prm.ofsStandard) ∨ (i = .pw3Per p d ∧ ofs = s.prm.ofsLegacy) →
      exec i s = .next { s with
        calls := s.calls ++ [.perWrite (p.extractLsb' 0 1) d ofs]
        ext := Config.extAfter s.seen (.perWrite (p.extractLsb' 0 1) d ofs)
        ssr := Config.ssrAfterPerWrite s.seen (.perWrite (p.extractLsb' 0 1) d ofs)
        ret := none })

/-- R216, R238, R250: these peripheral-controller reads pass `p & 1` and change nothing else. -/
def Obligations.PeripheralControllerReads : Prop :=
  ∀ (s : State) (c : Nat) (p : Port), RunningAt s c →
    (∀ i : Instr, i = .pr2Perg p ∨ i = .pr3Per p ∨ i = .pr4Per p →
      exec i s = .next { s with
        calls := s.calls ++ [.perRead (p.extractLsb' 0 1)]
        ext := Config.extAfter s.seen (.perRead (p.extractLsb' 0 1))
        ret := some (Config.answer s.seen (.perRead (p.extractLsb' 0 1))) })

/-- R192: HandheldMode's ports 0x3E and 0x3F are selected whatever hardware is; a read reaches the
peripheral controller or is unused, as the parameter says (the spec's decision D23). -/
def Obligations.HandheldPairRead : Prop :=
  ∀ (s : State) (c : Nat) (p : Port) (d : Byte), s.cfg.variant = .handheld →
    (p = 0x3E#8 ∨ p = 0x3F#8 →
      Selects s (portRead p) (.pr1Per3E p) ∧ Selects s (portWrite p d) (.pw1Per3E p d)) ∧
    (RunningAt s c → s.prm.handheld3E3FRead = .peripheral →
      exec (.pr1Per3E p) s = .next { s with
        calls := s.calls ++ [.perRead (p.extractLsb' 0 1)]
        ext := Config.extAfter s.seen (.perRead (p.extractLsb' 0 1))
        ret := some (Config.answer s.seen (.perRead (p.extractLsb' 0 1))) }) ∧
    (RunningAt s c → s.prm.handheld3E3FRead = .unused →
      exec (.pr1Per3E p) s = .next { s with ret := some 0xFF#8 })

/-- R190, R191, R194, R195: HandheldMode's words with `TW & 0x1F00C0 = 0x060000` and `0x070000` and a port
below 0x07 reach the I/O chip exactly when it is selected. The chip's interface, with the full port number,
and its selection flag are the spec's decision D23 (R198, log 14); the place of the data byte in the word is
the model's choice (log 11). -/
def Obligations.HandheldIoChip : Prop :=
  ∀ (s : State) (c : Nat) (p : Port) (d : Byte) (w : TxnWord),
    (fieldSpare w = 0#3 → s.cfg.variant = .handheld → w &&& 0x1F00C0#32 = 0x060000#32 →
      (w.extractLsb' 0 8).toNat < 0x07 →
      decode s.ctx w = .ok (if s.cfg.handheldHwSelected then .pr1Hio (w.extractLsb' 0 8)
        else .pr1B00 (w.extractLsb' 0 8))) ∧
    (fieldSpare w = 0#3 → s.cfg.variant = .handheld → w &&& 0x1F00C0#32 = 0x070000#32 →
      (w.extractLsb' 0 8).toNat < 0x07 →
      decode s.ctx w = .ok (if s.cfg.handheldHwSelected then .pw1Hio (w.extractLsb' 0 8) (fieldD w)
        else .pw1B00 (w.extractLsb' 0 8) (fieldD w))) ∧
    (RunningAt s c →
      exec (.pr1Hio p) s = .next { s with
        calls := s.calls ++ [.hioRead p]
        ext := Config.extAfter s.seen (.hioRead p)
        ret := some (Config.answer s.seen (.hioRead p)) } ∧
      exec (.pw1Hio p d) s = .next { s with
        calls := s.calls ++ [.hioWrite p d]
        ext := Config.extAfter s.seen (.hioWrite p d)
        ret := none })

/-- R180, R209, R212, R234, R161: the FM chip is read with CCYC and `p & 3`, in every variant that has
it. -/
def Obligations.FmChipReads : Prop :=
  ∀ (s : State) (c : Nat) (p : Port), RunningAt s c →
    (∀ i : Instr, i = .pr0Fm p ∨ i = .pr2Tfm p ∨ i = .pr2Xfm p ∨ i = .pr3Fm p →
      exec i s = .next { s with
        calls := s.calls ++ [.fmRead c (p.extractLsb' 0 2)]
        ext := Config.extAfter s.seen (.fmRead c (p.extractLsb' 0 2))
        ret := some (Config.answer s.seen (.fmRead c (p.extractLsb' 0 2))) })

/-- R181, R210, R213: these FM writes make one call and nothing else: no mute change, no SSR write. -/
def Obligations.FmChipPlainWrites : Prop :=
  ∀ (s : State) (c : Nat) (p : Port) (d : Byte), RunningAt s c →
    (∀ i : Instr, i = .pw0Fm p d ∨ i = .pw2Tfm p d ∨ i = .pw2Xfm p d →
      exec i s = .next { s with
        calls := s.calls ++ [.fmWrite c (p.extractLsb' 0 2) d]
        ext := Config.extAfter s.seen (.fmWrite c (p.extractLsb' 0 2) d)
        ret := none })

/-- R211: the audio-control write: the mute call from bit 1 of `(D + 1) mod 256`, the FM write at
register 2, `SSR <- D`, in this order. -/
def Obligations.AudioControlWrite : Prop :=
  ∀ (s : State) (c : Nat) (p : Port) (d : Byte),
    (s.prm.Admissible → s.cfg.variant = .standard → s.cfg.fmEnabled = true → s.cfg.regionIsT = true →
      p = s.prm.audioctlPort → Selects s (portWrite p d) (.pw2Actl p d)) ∧
    (RunningAt s c →
      ∃ mute : Call,
        mute = .sgenConfig c s.cfg.amplifierLevel
          (if d.toNat % 4 = 1 ∨ d.toNat % 4 = 2 then 0x00#8 else s.prm.muteOnMask) ∧
        exec (.pw2Actl p d) s = .next { s with
          calls := s.calls ++ [mute, .fmWrite c 2#2 d]
          ext := Config.extAfter (s.record mute).seen (.fmWrite c 2#2 d)
          ssr := d
          ret := none })

/-- R235: LegacyConsoleMode's FM write, followed by the mute call from `D[0]` when the second gate bit of
the port is set; SSR is not written. -/
def Obligations.LegacyFmWrite : Prop :=
  ∀ (s : State) (c : Nat) (p : Port) (d : Byte),
    (s.cfg.variant = .legacy → s.cfg.fmEnabled = true → p &&& 0xC0#8 = 0xC0#8 →
      p.getLsbD s.prm.legFmGateBit = false → Selects s (portWrite p d) (.pw3Fm p d)) ∧
    (RunningAt s c → p.getLsbD s.prm.legMuteBit = false →
      exec (.pw3Fm p d) s = .next { s with
        calls := s.calls ++ [.fmWrite c (p.extractLsb' 0 2) d]
        ext := Config.extAfter s.seen (.fmWrite c (p.extractLsb' 0 2) d)
        ret := none }) ∧
    (RunningAt s c → p.getLsbD s.prm.legMuteBit = true →
      ∃ mute : Call,
        mute = .sgenConfig c s.cfg.amplifierLevel
          (if d.toNat % 2 = 1 then 0x00#8 else s.prm.muteOnMask) ∧
        exec (.pw3Fm p d) s = .next { s with
          calls := s.calls ++ [.fmWrite c (p.extractLsb' 0 2) d, mute]
          ext := Config.extAfter (s.record (.fmWrite c (p.extractLsb' 0 2) d)).seen mute
          ret := none })

/-- R208: StandardConsoleMode's default bucket, read and write, as the decision list says: the spec's own
reading of its source (D24), with D40 for the reads in territory T (log 14). -/
def Obligations.StandardDefaultBucket : Prop :=
  ∀ (s : State) (p : Port) (d : Byte), s.prm.Admissible → s.cfg.variant = .standard →
    p &&& 0xC0#8 = 0xC0#8 →
    (s.cfg.fmEnabled = false →
      Selects s (portRead p) (.pr2Def p) ∧ Selects s (portWrite p d) (.pw2Def p d)) ∧
    (s.cfg.fmEnabled = true → s.cfg.regionIsT = true →
      (p = s.prm.audioctlPort →
        Selects s (portRead p) (.pr2Def p) ∧ Selects s (portWrite p d) (.pw2Actl p d)) ∧
      (p ∈ s.prm.tFmPorts →
        Selects s (portRead p) (.pr2Tfm p) ∧ Selects s (portWrite p d) (.pw2Tfm p d)) ∧
      (p ≠ s.prm.audioctlPort → p ∉ s.prm.tFmPorts →
        Selects s (portRead p) (.pr2Def p) ∧ Selects s (portWrite p d) (.pw2Def p d))) ∧
    (s.cfg.fmEnabled = true → s.cfg.regionIsT = false →
      (p.getLsbD s.prm.stdFmGateBit = false →
        Selects s (portRead p) (.pr2Xfm p) ∧ Selects s (portWrite p d) (.pw2Xfm p d)) ∧
      (p.getLsbD s.prm.stdFmGateBit = true →
        Selects s (portWrite p d) (.pw2Def p d) ∧
        (s.ssr.getLsbD s.prm.ssrGateBit = s.prm.ssrGateAllow → Selects s (portRead p) (.pr2Perg p)) ∧
        (s.ssr.getLsbD s.prm.ssrGateBit ≠ s.prm.ssrGateAllow → Selects s (portRead p) (.pr2Def p))))

/-- R183, R195, R197, R206, R218, R232, R237, R248, R251: an unused port write changes nothing. -/
def Obligations.UnusedPortWrites : Prop :=
  ∀ (s : State) (c : Nat) (p : Port) (d : Byte), RunningAt s c →
    (∀ i : Instr, i = .pw0Def p d ∨ i = .pw1B00 p d ∨ i = .pw1Def p d ∨ i = .pw2B00 p d ∨ i = .pw2Def p d ∨
        i = .pw3B00 p d ∨ i = .pw3Def p d ∨ i = .pw4B00 p d ∨ i = .pw4Def p d →
      exec i s = .next { s with ret := none })

/-- R177, R182, R194, R196, R246, R249: an unused port read of V0, V1 or V4 returns 0xFF whatever
`openBusFamily` is, and changes nothing. -/
def Obligations.UnusedPortReadsReturnFF : Prop :=
  ∀ (s : State) (c : Nat) (p : Port), RunningAt s c →
    s.cfg.variant ≠ .standard → s.cfg.variant ≠ .legacy →
    (∀ i : Instr, i = .pr0B00 p ∨ i = .pr0Def p ∨ i = .pr1B00 p ∨ i = .pr1Def p ∨ i = .pr4B00 p ∨
        i = .pr4B40 p →
      exec i s = .next { s with ret := some 0xFF#8 })

/-- R207, R217, R231, R236, R265, R266: an unused port read of V2 or V3 returns 0xFF, or in the open-bus
family the byte just before the coprocessor's program position, at 16 bits; in the other variants `UPR`
returns 0xFF. Nothing changes, neither the block's state nor the collaborators' (R54; that `COP.peek` has no
side effects is the spec's decision D28, log 14); the two questions to the coprocessor are recorded. -/
def Obligations.UnusedPortReadsMayFloat : Prop :=
  ∀ (s : State) (p : Port) (i : Instr),
    i = .upr p ∨ (∃ c, RunningAt s c ∧ (i = .pr2B00 p ∨ i = .pr2Def p ∨ i = .pr3B00 p ∨ i = .pr3Def p)) →
    ((s.cfg.variant = .standard ∨ s.cfg.variant = .legacy) ∧ s.cfg.openBusFamily = true →
      exec i s = .next { s with
        calls := s.calls ++ [.copPc, .copPeek (Config.copPc s.seen - 1#16)]
        ret := some (Config.answer (s.noteCall .copPc).seen (.copPeek (Config.copPc s.seen - 1#16))) }) ∧
    (¬ ((s.cfg.variant = .standard ∨ s.cfg.variant = .legacy) ∧ s.cfg.openBusFamily = true) →
      exec i s = .next { s with ret := some 0xFF#8 })

/-! ### Fault handlers -/

/-- R261, R262, R267: the unused handlers change nothing and return 0xFF or nothing, halted or not. -/
def Obligations.UnusedHandlers : Prop :=
  ∀ (s : State) (ea : PAddr) (p : Port) (d : Byte),
    exec (.umr ea) s = .next { s with ret := some 0xFF#8 } ∧
    exec (.umw ea d) s = .next { s with ret := none } ∧
    exec (.upw p d) s = .next { s with ret := none }

/-- R263, R264: the lockup handlers set CCYC to NEVER and clear RUN bit 0, every other bit kept, unless
`forceNoLockup`; the read returns 0xFF in both cases. -/
def Obligations.LockupHandlers : Prop :=
  ∀ (s : State) (ea : PAddr) (d : Byte),
    (s.cfg.forceNoLockup = false →
      ∃ t : State, exec (.lkr ea) s = .next { t with ret := some 0xFF#8 } ∧
        exec (.lkw ea d) s = .next { t with ret := none } ∧
        t = { s with ccyc := .never, run := t.run } ∧
        t.run.testBit 0 = false ∧ ∀ j, j ≠ 0 → t.run.testBit j = s.run.testBit j) ∧
    (s.cfg.forceNoLockup = true →
      exec (.lkr ea) s = .next { s with ret := some 0xFF#8 } ∧
      exec (.lkw ea d) s = .next { s with ret := none })

/-- R269: a second invocation of the lockup handler leaves the state unchanged. -/
def Obligations.LockupIdempotence : Prop :=
  ∀ (s : State) (ea ea' : PAddr) (d d' : Byte), s.cfg.forceNoLockup = false →
    (∃ t, exec (.lkr ea) s = .next t ∧ Halted t ∧ t.run.testBit 0 = false ∧
      exec (.lkr ea') t = .next t) ∧
    (∃ t, exec (.lkw ea d) s = .next t ∧ Halted t ∧ t.run.testBit 0 = false ∧
      exec (.lkw ea' d') t = .next t)

/-! ### Whole-machine rules -/

/-- R33: every step, a transaction or a move of the host, keeps the invariant: admissible parameters, a
Delegate at `VID_BT_INDEX` (H10), `BANK[14:0] = 0`, RUN within `RUN_WIDTH` bits, memories in canonical form. -/
def Obligations.EveryStepKeepsTheInvariant : Prop :=
  ∀ s t : State, Inv s → step s = .next t → Inv t

/-- R38: the model's launch state meets the invariant and its video entry is a Delegate (H10). The values
themselves are the model's choices (logs 6 to 9). -/
def Obligations.ResetStateMeetsTheInvariant : Prop :=
  Inv State.reset ∧ RunningAt State.reset 0 ∧ State.reset.run.testBit 0 = true ∧
    btEntry State.reset.bt State.reset.prm.vidBtIndex = .delegate .video

/-- R33: a transaction never decreases a cycle counter; NEVER is the top and never left by one. -/
def Obligations.TransactionsNeverDecreaseACounter : Prop :=
  ∀ (s t : State) (w : TxnWord) (rest : List Input), s.inbox = .txn w :: rest → step s = .next t →
    s.ccyc.le t.ccyc = true ∧ s.pcyc ≤ t.pcyc

/-- R20, R39: no transaction writes CFG, PRM, the DMA snapshot or the BankTable, nor the model's draws; it
takes one input off the queue. The collaborators' unseen state `ext` changes by calls only (R40). -/
def Obligations.TransactionsNeverWriteConfiguration : Prop :=
  ∀ (s t : State) (w : TxnWord) (rest : List Input), s.inbox = .txn w :: rest → step s = .next t →
    t.cfg = s.cfg ∧ t.prm = s.prm ∧ t.dma = s.dma ∧ t.bt = s.bt ∧
    t.ramDraw = s.ramDraw ∧ t.bufDraw = s.bufDraw ∧
    (t.calls = s.calls → t.ext = s.ext) ∧ t.inbox = rest

/-- R260, R263, R264: a transaction halts a running block exactly when it reaches a `Delegate(HLockup)`
entry and the override is off. -/
def Obligations.OnlyALockupEntryHalts : Prop :=
  ∀ (s t : State) (w : TxnWord) (rest : List Input) (i : Instr) (c : Nat),
    s.inbox = .txn w :: rest → decode s.ctx w = .ok i → RunningAt s c → step s = .next t →
    (Halted t ↔ reachedEntry s i = some (.delegate .lockup) ∧ s.cfg.forceNoLockup = false)

/-- R140, R326: only the four shared-bus operations charge PCYC (70 or 77) or touch RUN, and beside them
only `PW.4.SGEN` changes CCYC. -/
def Obligations.OnlySharedBusAccessesCharge : Prop :=
  ∀ (s t : State) (w : TxnWord) (rest : List Input) (i : Instr),
    s.inbox = .txn w :: rest → decode s.ctx w = .ok i → step s = .next t →
    (crossesSharedBus i = true → t.pcyc = s.pcyc + 70 ∨ t.pcyc = s.pcyc + 77) ∧
    (crossesSharedBus i = false → t.pcyc = s.pcyc ∧ t.run = s.run ∧
      ((∀ p d, i ≠ .pw4Sgen p d) → t.ccyc = s.ccyc))

/-- R39: who writes what inside the block: BANK by `MW.BSEL`, RAM by `MW.RAM`, buffers by `MW.BANK`, SSR by
the audio-control write and by the operations that call `PER.write`. -/
def Obligations.EachStateHasItsWriters : Prop :=
  ∀ (s t : State) (w : TxnWord) (rest : List Input) (i : Instr),
    s.inbox = .txn w :: rest → decode s.ctx w = .ok i → step s = .next t →
    ((∀ a d, i ≠ .mwBsel a d) → t.bank = s.bank) ∧
    ((∀ a d, i ≠ .mwRam a d) → ∀ o, ramByte t o = ramByte s o) ∧
    ((∀ a d, i ≠ .mwBank a d) → ∀ b o, bufByte t b o = bufByte s b o) ∧
    ((∀ p d, i ≠ .pw2Actl p d) → callsPerWrite i = false → t.ssr = s.ssr)

/-- R24, R36: a transaction never sets RUN bit 0, never clears bit `OWED_BIT` and keeps every other
bit. -/
def Obligations.TransactionsKeepTheUnnamedRunBits : Prop :=
  ∀ (s t : State) (w : TxnWord) (rest : List Input), s.prm.owedBit ≠ 0 →
    s.inbox = .txn w :: rest → step s = .next t →
    (t.run.testBit 0 = true → s.run.testBit 0 = true) ∧
    (s.run.testBit s.prm.owedBit = true → t.run.testBit s.prm.owedBit = true) ∧
    (∀ j, j ≠ 0 → j ≠ s.prm.owedBit → t.run.testBit j = s.run.testBit j)

/-- R10: the calls of a transaction are appended to the record, at most two of them; a write returns no
value and a read returns one (R80). -/
def Obligations.CallsAreOnlyAppended : Prop :=
  ∀ (s t : State) (w : TxnWord) (rest : List Input), s.inbox = .txn w :: rest → step s = .next t →
    (∃ l : List Call, t.calls = s.calls ++ l ∧ l.length ≤ 2) ∧
    (t.ret.isSome = !fieldW w)

/-! ### The host -/

/-- R298, R311: external reset ends a halt with a finite CCYC and leaves `BANK[14:0] = 0`; CFG and PRM are
the session's; the BankTable, SSR, the RAM and the buffers are each kept or replaced as the move's choice
says (D30, log 18), so nothing is said of one without its choice, and a redrawn byte is a free value. R295,
R310: nothing else ends a halt. -/
def Obligations.ExternalResetEndsAHalt : Prop :=
  ∀ s : State,
    (∀ (r : ResetChoice) (rest : List Input), s.inbox = .move (.externalReset r) :: rest →
      (∀ table, r.bt = some table → ∃ h, btEntry table s.prm.vidBtIndex = .delegate h) →
      ∃ t, step s = .next t ∧ RunningAt t r.ccyc ∧ t.pcyc = r.pcyc ∧ t.bank.extractLsb' 0 15 = 0#15 ∧
        t.cfg = s.cfg ∧ t.prm = s.prm ∧ t.inbox = rest ∧
        (r.bt = none → t.bt = s.bt) ∧ (∀ table, r.bt = some table → t.bt = table) ∧
        (r.ssr = none → t.ssr = s.ssr) ∧ (∀ v, r.ssr = some v → t.ssr = v) ∧
        (r.redrawRam = none → ∀ o, ramByte t o = ramByte s o) ∧
        (∀ n, r.redrawRam = some n → ∀ o, ramByte t o = Config.ramDrawn n o.toNat) ∧
        (r.redrawBufs = none → ∀ b o, bufByte t b o = bufByte s b o) ∧
        (∀ n, r.redrawBufs = some n → ∀ b o, bufByte t b o = Config.bufDrawn n (bufKey b o))) ∧
    (∀ t, Halted s → (∀ r rest, s.inbox ≠ .move (.externalReset r) :: rest) → step s = .next t →
      Halted t)

/-- R299, R301, R312: the frame boundary rebases the counters and may clear the owed bit, a halted CCYC
staying NEVER; RECONFIG replaces `fmEnabled` and `amplifierLevel` only. -/
def Obligations.FrameBoundaryAndReconfiguration : Prop :=
  ∀ (s : State) (rest : List Input),
    (∀ x y clear, s.inbox = .move (.frame x y clear) :: rest →
      ∃ t, step s = .next t ∧ t = { s with ccyc := t.ccyc, pcyc := y, run := t.run, inbox := rest } ∧
        (Halted s → Halted t) ∧ (∀ c, RunningAt s c → RunningAt t x) ∧
        (∀ j, t.run.testBit j =
          (s.run.testBit j && !(clear && decide (j = s.prm.owedBit))))) ∧
    (∀ fm amp, s.inbox = .move (.reconfig fm amp) :: rest →
      step s = .next { s with
        cfg := { s.cfg with fmEnabled := fm, amplifierLevel := amp }
        inbox := rest })
end

