-- ==== Sys2Proof/Laws/State.lean ====
section
/-! SUPPORT. One lemma per field per update of State, so that no proof unfolds a record update. -/

namespace Sys2Proof.Machine

variable (s : State)

/-- A collaborator sees neither the model's `ret` nor its `inbox`. -/
@[simp] theorem State.seen_setRet (v : Option Byte) : (s.setRet v).seen = s.seen := rfl
@[simp] theorem State.seen_setInbox (l : List Input) : (s.setInbox l).seen = s.seen := rfl
@[simp] theorem State.seen_seen : s.seen.seen = s.seen := rfl

@[simp] theorem State.cfg_setRet (v : Option Byte) : (s.setRet v).cfg = s.cfg := rfl
@[simp] theorem State.prm_setRet (v : Option Byte) : (s.setRet v).prm = s.prm := rfl
@[simp] theorem State.ccyc_setRet (v : Option Byte) : (s.setRet v).ccyc = s.ccyc := rfl
@[simp] theorem State.pcyc_setRet (v : Option Byte) : (s.setRet v).pcyc = s.pcyc := rfl
@[simp] theorem State.dma_setRet (v : Option Byte) : (s.setRet v).dma = s.dma := rfl
@[simp] theorem State.run_setRet (v : Option Byte) : (s.setRet v).run = s.run := rfl
@[simp] theorem State.bank_setRet (v : Option Byte) : (s.setRet v).bank = s.bank := rfl
@[simp] theorem State.bt_setRet (v : Option Byte) : (s.setRet v).bt = s.bt := rfl
@[simp] theorem State.ssr_setRet (v : Option Byte) : (s.setRet v).ssr = s.ssr := rfl
@[simp] theorem State.ram_setRet (v : Option Byte) : (s.setRet v).ram = s.ram := rfl
@[simp] theorem State.bufs_setRet (v : Option Byte) : (s.setRet v).bufs = s.bufs := rfl
@[simp] theorem State.ramDraw_setRet (v : Option Byte) : (s.setRet v).ramDraw = s.ramDraw := rfl
@[simp] theorem State.bufDraw_setRet (v : Option Byte) : (s.setRet v).bufDraw = s.bufDraw := rfl
@[simp] theorem State.ext_setRet (v : Option Byte) : (s.setRet v).ext = s.ext := rfl
@[simp] theorem State.calls_setRet (v : Option Byte) : (s.setRet v).calls = s.calls := rfl
@[simp] theorem State.ret_setRet (v : Option Byte) : (s.setRet v).ret = v := rfl
@[simp] theorem State.inbox_setRet (v : Option Byte) : (s.setRet v).inbox = s.inbox := rfl

@[simp] theorem State.cfg_setCcyc (c : Cycle) : (s.setCcyc c).cfg = s.cfg := rfl
@[simp] theorem State.prm_setCcyc (c : Cycle) : (s.setCcyc c).prm = s.prm := rfl
@[simp] theorem State.ccyc_setCcyc (c : Cycle) : (s.setCcyc c).ccyc = c := rfl
@[simp] theorem State.pcyc_setCcyc (c : Cycle) : (s.setCcyc c).pcyc = s.pcyc := rfl
@[simp] theorem State.dma_setCcyc (c : Cycle) : (s.setCcyc c).dma = s.dma := rfl
@[simp] theorem State.run_setCcyc (c : Cycle) : (s.setCcyc c).run = s.run := rfl
@[simp] theorem State.bank_setCcyc (c : Cycle) : (s.setCcyc c).bank = s.bank := rfl
@[simp] theorem State.bt_setCcyc (c : Cycle) : (s.setCcyc c).bt = s.bt := rfl
@[simp] theorem State.ssr_setCcyc (c : Cycle) : (s.setCcyc c).ssr = s.ssr := rfl
@[simp] theorem State.ram_setCcyc (c : Cycle) : (s.setCcyc c).ram = s.ram := rfl
@[simp] theorem State.bufs_setCcyc (c : Cycle) : (s.setCcyc c).bufs = s.bufs := rfl
@[simp] theorem State.ramDraw_setCcyc (c : Cycle) : (s.setCcyc c).ramDraw = s.ramDraw := rfl
@[simp] theorem State.bufDraw_setCcyc (c : Cycle) : (s.setCcyc c).bufDraw = s.bufDraw := rfl
@[simp] theorem State.ext_setCcyc (c : Cycle) : (s.setCcyc c).ext = s.ext := rfl
@[simp] theorem State.calls_setCcyc (c : Cycle) : (s.setCcyc c).calls = s.calls := rfl
@[simp] theorem State.ret_setCcyc (c : Cycle) : (s.setCcyc c).ret = s.ret := rfl
@[simp] theorem State.inbox_setCcyc (c : Cycle) : (s.setCcyc c).inbox = s.inbox := rfl

@[simp] theorem State.cfg_setPcyc (n : Nat) : (s.setPcyc n).cfg = s.cfg := rfl
@[simp] theorem State.prm_setPcyc (n : Nat) : (s.setPcyc n).prm = s.prm := rfl
@[simp] theorem State.ccyc_setPcyc (n : Nat) : (s.setPcyc n).ccyc = s.ccyc := rfl
@[simp] theorem State.pcyc_setPcyc (n : Nat) : (s.setPcyc n).pcyc = n := rfl
@[simp] theorem State.dma_setPcyc (n : Nat) : (s.setPcyc n).dma = s.dma := rfl
@[simp] theorem State.run_setPcyc (n : Nat) : (s.setPcyc n).run = s.run := rfl
@[simp] theorem State.bank_setPcyc (n : Nat) : (s.setPcyc n).bank = s.bank := rfl
@[simp] theorem State.bt_setPcyc (n : Nat) : (s.setPcyc n).bt = s.bt := rfl
@[simp] theorem State.ssr_setPcyc (n : Nat) : (s.setPcyc n).ssr = s.ssr := rfl
@[simp] theorem State.ram_setPcyc (n : Nat) : (s.setPcyc n).ram = s.ram := rfl
@[simp] theorem State.bufs_setPcyc (n : Nat) : (s.setPcyc n).bufs = s.bufs := rfl
@[simp] theorem State.ramDraw_setPcyc (n : Nat) : (s.setPcyc n).ramDraw = s.ramDraw := rfl
@[simp] theorem State.bufDraw_setPcyc (n : Nat) : (s.setPcyc n).bufDraw = s.bufDraw := rfl
@[simp] theorem State.ext_setPcyc (n : Nat) : (s.setPcyc n).ext = s.ext := rfl
@[simp] theorem State.calls_setPcyc (n : Nat) : (s.setPcyc n).calls = s.calls := rfl
@[simp] theorem State.ret_setPcyc (n : Nat) : (s.setPcyc n).ret = s.ret := rfl
@[simp] theorem State.inbox_setPcyc (n : Nat) : (s.setPcyc n).inbox = s.inbox := rfl

@[simp] theorem State.cfg_setRun (r : Nat) : (s.setRun r).cfg = s.cfg := rfl
@[simp] theorem State.prm_setRun (r : Nat) : (s.setRun r).prm = s.prm := rfl
@[simp] theorem State.ccyc_setRun (r : Nat) : (s.setRun r).ccyc = s.ccyc := rfl
@[simp] theorem State.pcyc_setRun (r : Nat) : (s.setRun r).pcyc = s.pcyc := rfl
@[simp] theorem State.dma_setRun (r : Nat) : (s.setRun r).dma = s.dma := rfl
@[simp] theorem State.run_setRun (r : Nat) : (s.setRun r).run = r := rfl
@[simp] theorem State.bank_setRun (r : Nat) : (s.setRun r).bank = s.bank := rfl
@[simp] theorem State.bt_setRun (r : Nat) : (s.setRun r).bt = s.bt := rfl
@[simp] theorem State.ssr_setRun (r : Nat) : (s.setRun r).ssr = s.ssr := rfl
@[simp] theorem State.ram_setRun (r : Nat) : (s.setRun r).ram = s.ram := rfl
@[simp] theorem State.bufs_setRun (r : Nat) : (s.setRun r).bufs = s.bufs := rfl
@[simp] theorem State.ramDraw_setRun (r : Nat) : (s.setRun r).ramDraw = s.ramDraw := rfl
@[simp] theorem State.bufDraw_setRun (r : Nat) : (s.setRun r).bufDraw = s.bufDraw := rfl
@[simp] theorem State.ext_setRun (r : Nat) : (s.setRun r).ext = s.ext := rfl
@[simp] theorem State.calls_setRun (r : Nat) : (s.setRun r).calls = s.calls := rfl
@[simp] theorem State.ret_setRun (r : Nat) : (s.setRun r).ret = s.ret := rfl
@[simp] theorem State.inbox_setRun (r : Nat) : (s.setRun r).inbox = s.inbox := rfl

@[simp] theorem State.cfg_setBank (b : PAddr) : (s.setBank b).cfg = s.cfg := rfl
@[simp] theorem State.prm_setBank (b : PAddr) : (s.setBank b).prm = s.prm := rfl
@[simp] theorem State.ccyc_setBank (b : PAddr) : (s.setBank b).ccyc = s.ccyc := rfl
@[simp] theorem State.pcyc_setBank (b : PAddr) : (s.setBank b).pcyc = s.pcyc := rfl
@[simp] theorem State.dma_setBank (b : PAddr) : (s.setBank b).dma = s.dma := rfl
@[simp] theorem State.run_setBank (b : PAddr) : (s.setBank b).run = s.run := rfl
@[simp] theorem State.bank_setBank (b : PAddr) : (s.setBank b).bank = b := rfl
@[simp] theorem State.bt_setBank (b : PAddr) : (s.setBank b).bt = s.bt := rfl
@[simp] theorem State.ssr_setBank (b : PAddr) : (s.setBank b).ssr = s.ssr := rfl
@[simp] theorem State.ram_setBank (b : PAddr) : (s.setBank b).ram = s.ram := rfl
@[simp] theorem State.bufs_setBank (b : PAddr) : (s.setBank b).bufs = s.bufs := rfl
@[simp] theorem State.ramDraw_setBank (b : PAddr) : (s.setBank b).ramDraw = s.ramDraw := rfl
@[simp] theorem State.bufDraw_setBank (b : PAddr) : (s.setBank b).bufDraw = s.bufDraw := rfl
@[simp] theorem State.ext_setBank (b : PAddr) : (s.setBank b).ext = s.ext := rfl
@[simp] theorem State.calls_setBank (b : PAddr) : (s.setBank b).calls = s.calls := rfl
@[simp] theorem State.ret_setBank (b : PAddr) : (s.setBank b).ret = s.ret := rfl
@[simp] theorem State.inbox_setBank (b : PAddr) : (s.setBank b).inbox = s.inbox := rfl

@[simp] theorem State.cfg_setSsr (v : Byte) : (s.setSsr v).cfg = s.cfg := rfl
@[simp] theorem State.prm_setSsr (v : Byte) : (s.setSsr v).prm = s.prm := rfl
@[simp] theorem State.ccyc_setSsr (v : Byte) : (s.setSsr v).ccyc = s.ccyc := rfl
@[simp] theorem State.pcyc_setSsr (v : Byte) : (s.setSsr v).pcyc = s.pcyc := rfl
@[simp] theorem State.dma_setSsr (v : Byte) : (s.setSsr v).dma = s.dma := rfl
@[simp] theorem State.run_setSsr (v : Byte) : (s.setSsr v).run = s.run := rfl
@[simp] theorem State.bank_setSsr (v : Byte) : (s.setSsr v).bank = s.bank := rfl
@[simp] theorem State.bt_setSsr (v : Byte) : (s.setSsr v).bt = s.bt := rfl
@[simp] theorem State.ssr_setSsr (v : Byte) : (s.setSsr v).ssr = v := rfl
@[simp] theorem State.ram_setSsr (v : Byte) : (s.setSsr v).ram = s.ram := rfl
@[simp] theorem State.bufs_setSsr (v : Byte) : (s.setSsr v).bufs = s.bufs := rfl
@[simp] theorem State.ramDraw_setSsr (v : Byte) : (s.setSsr v).ramDraw = s.ramDraw := rfl
@[simp] theorem State.bufDraw_setSsr (v : Byte) : (s.setSsr v).bufDraw = s.bufDraw := rfl
@[simp] theorem State.ext_setSsr (v : Byte) : (s.setSsr v).ext = s.ext := rfl
@[simp] theorem State.calls_setSsr (v : Byte) : (s.setSsr v).calls = s.calls := rfl
@[simp] theorem State.ret_setSsr (v : Byte) : (s.setSsr v).ret = s.ret := rfl
@[simp] theorem State.inbox_setSsr (v : Byte) : (s.setSsr v).inbox = s.inbox := rfl

@[simp] theorem State.cfg_writeRam (o : BitVec 13) (v : Byte) : (s.writeRam o v).cfg = s.cfg := rfl
@[simp] theorem State.prm_writeRam (o : BitVec 13) (v : Byte) : (s.writeRam o v).prm = s.prm := rfl
@[simp] theorem State.ccyc_writeRam (o : BitVec 13) (v : Byte) : (s.writeRam o v).ccyc = s.ccyc := rfl
@[simp] theorem State.pcyc_writeRam (o : BitVec 13) (v : Byte) : (s.writeRam o v).pcyc = s.pcyc := rfl
@[simp] theorem State.dma_writeRam (o : BitVec 13) (v : Byte) : (s.writeRam o v).dma = s.dma := rfl
@[simp] theorem State.run_writeRam (o : BitVec 13) (v : Byte) : (s.writeRam o v).run = s.run := rfl
@[simp] theorem State.bank_writeRam (o : BitVec 13) (v : Byte) : (s.writeRam o v).bank = s.bank := rfl
@[simp] theorem State.bt_writeRam (o : BitVec 13) (v : Byte) : (s.writeRam o v).bt = s.bt := rfl
@[simp] theorem State.ssr_writeRam (o : BitVec 13) (v : Byte) : (s.writeRam o v).ssr = s.ssr := rfl
@[simp] theorem State.ram_writeRam (o : BitVec 13) (v : Byte) : (s.writeRam o v).ram = memWrite s.ram o.toNat v := rfl
@[simp] theorem State.bufs_writeRam (o : BitVec 13) (v : Byte) : (s.writeRam o v).bufs = s.bufs := rfl
@[simp] theorem State.ramDraw_writeRam (o : BitVec 13) (v : Byte) : (s.writeRam o v).ramDraw = s.ramDraw := rfl
@[simp] theorem State.bufDraw_writeRam (o : BitVec 13) (v : Byte) : (s.writeRam o v).bufDraw = s.bufDraw := rfl
@[simp] theorem State.ext_writeRam (o : BitVec 13) (v : Byte) : (s.writeRam o v).ext = s.ext := rfl
@[simp] theorem State.calls_writeRam (o : BitVec 13) (v : Byte) : (s.writeRam o v).calls = s.calls := rfl
@[simp] theorem State.ret_writeRam (o : BitVec 13) (v : Byte) : (s.writeRam o v).ret = s.ret := rfl
@[simp] theorem State.inbox_writeRam (o : BitVec 13) (v : Byte) : (s.writeRam o v).inbox = s.inbox := rfl

@[simp] theorem State.cfg_writeBuf (n : Nat) (o : BitVec 16) (v : Byte) : (s.writeBuf n o v).cfg = s.cfg := rfl
@[simp] theorem State.prm_writeBuf (n : Nat) (o : BitVec 16) (v : Byte) : (s.writeBuf n o v).prm = s.prm := rfl
@[simp] theorem State.ccyc_writeBuf (n : Nat) (o : BitVec 16) (v : Byte) : (s.writeBuf n o v).ccyc = s.ccyc := rfl
@[simp] theorem State.pcyc_writeBuf (n : Nat) (o : BitVec 16) (v : Byte) : (s.writeBuf n o v).pcyc = s.pcyc := rfl
@[simp] theorem State.dma_writeBuf (n : Nat) (o : BitVec 16) (v : Byte) : (s.writeBuf n o v).dma = s.dma := rfl
@[simp] theorem State.run_writeBuf (n : Nat) (o : BitVec 16) (v : Byte) : (s.writeBuf n o v).run = s.run := rfl
@[simp] theorem State.bank_writeBuf (n : Nat) (o : BitVec 16) (v : Byte) : (s.writeBuf n o v).bank = s.bank := rfl
@[simp] theorem State.bt_writeBuf (n : Nat) (o : BitVec 16) (v : Byte) : (s.writeBuf n o v).bt = s.bt := rfl
@[simp] theorem State.ssr_writeBuf (n : Nat) (o : BitVec 16) (v : Byte) : (s.writeBuf n o v).ssr = s.ssr := rfl
@[simp] theorem State.ram_writeBuf (n : Nat) (o : BitVec 16) (v : Byte) : (s.writeBuf n o v).ram = s.ram := rfl
@[simp] theorem State.bufs_writeBuf (n : Nat) (o : BitVec 16) (v : Byte) : (s.writeBuf n o v).bufs = memWrite s.bufs (bufKey n o) v := rfl
@[simp] theorem State.ramDraw_writeBuf (n : Nat) (o : BitVec 16) (v : Byte) : (s.writeBuf n o v).ramDraw = s.ramDraw := rfl
@[simp] theorem State.bufDraw_writeBuf (n : Nat) (o : BitVec 16) (v : Byte) : (s.writeBuf n o v).bufDraw = s.bufDraw := rfl
@[simp] theorem State.ext_writeBuf (n : Nat) (o : BitVec 16) (v : Byte) : (s.writeBuf n o v).ext = s.ext := rfl
@[simp] theorem State.calls_writeBuf (n : Nat) (o : BitVec 16) (v : Byte) : (s.writeBuf n o v).calls = s.calls := rfl
@[simp] theorem State.ret_writeBuf (n : Nat) (o : BitVec 16) (v : Byte) : (s.writeBuf n o v).ret = s.ret := rfl
@[simp] theorem State.inbox_writeBuf (n : Nat) (o : BitVec 16) (v : Byte) : (s.writeBuf n o v).inbox = s.inbox := rfl

@[simp] theorem State.cfg_noteCall (c : Call) : (s.noteCall c).cfg = s.cfg := rfl
@[simp] theorem State.prm_noteCall (c : Call) : (s.noteCall c).prm = s.prm := rfl
@[simp] theorem State.ccyc_noteCall (c : Call) : (s.noteCall c).ccyc = s.ccyc := rfl
@[simp] theorem State.pcyc_noteCall (c : Call) : (s.noteCall c).pcyc = s.pcyc := rfl
@[simp] theorem State.dma_noteCall (c : Call) : (s.noteCall c).dma = s.dma := rfl
@[simp] theorem State.run_noteCall (c : Call) : (s.noteCall c).run = s.run := rfl
@[simp] theorem State.bank_noteCall (c : Call) : (s.noteCall c).bank = s.bank := rfl
@[simp] theorem State.bt_noteCall (c : Call) : (s.noteCall c).bt = s.bt := rfl
@[simp] theorem State.ssr_noteCall (c : Call) : (s.noteCall c).ssr = s.ssr := rfl
@[simp] theorem State.ram_noteCall (c : Call) : (s.noteCall c).ram = s.ram := rfl
@[simp] theorem State.bufs_noteCall (c : Call) : (s.noteCall c).bufs = s.bufs := rfl
@[simp] theorem State.ramDraw_noteCall (c : Call) : (s.noteCall c).ramDraw = s.ramDraw := rfl
@[simp] theorem State.bufDraw_noteCall (c : Call) : (s.noteCall c).bufDraw = s.bufDraw := rfl
@[simp] theorem State.ext_noteCall (c : Call) : (s.noteCall c).ext = s.ext := rfl
@[simp] theorem State.calls_noteCall (c : Call) : (s.noteCall c).calls = s.calls ++ [c] := rfl
@[simp] theorem State.ret_noteCall (c : Call) : (s.noteCall c).ret = s.ret := rfl
@[simp] theorem State.inbox_noteCall (c : Call) : (s.noteCall c).inbox = s.inbox := rfl

@[simp] theorem State.cfg_record (c : Call) : (s.record c).cfg = s.cfg := rfl
@[simp] theorem State.prm_record (c : Call) : (s.record c).prm = s.prm := rfl
@[simp] theorem State.ccyc_record (c : Call) : (s.record c).ccyc = s.ccyc := rfl
@[simp] theorem State.pcyc_record (c : Call) : (s.record c).pcyc = s.pcyc := rfl
@[simp] theorem State.dma_record (c : Call) : (s.record c).dma = s.dma := rfl
@[simp] theorem State.run_record (c : Call) : (s.record c).run = s.run := rfl
@[simp] theorem State.bank_record (c : Call) : (s.record c).bank = s.bank := rfl
@[simp] theorem State.bt_record (c : Call) : (s.record c).bt = s.bt := rfl
@[simp] theorem State.ssr_record (c : Call) : (s.record c).ssr = s.ssr := rfl
@[simp] theorem State.ram_record (c : Call) : (s.record c).ram = s.ram := rfl
@[simp] theorem State.bufs_record (c : Call) : (s.record c).bufs = s.bufs := rfl
@[simp] theorem State.ramDraw_record (c : Call) : (s.record c).ramDraw = s.ramDraw := rfl
@[simp] theorem State.bufDraw_record (c : Call) : (s.record c).bufDraw = s.bufDraw := rfl
@[simp] theorem State.ext_record (c : Call) : (s.record c).ext = Config.extAfter s.seen c := rfl
@[simp] theorem State.calls_record (c : Call) : (s.record c).calls = s.calls ++ [c] := rfl
@[simp] theorem State.ret_record (c : Call) : (s.record c).ret = s.ret := rfl
@[simp] theorem State.inbox_record (c : Call) : (s.record c).inbox = s.inbox := rfl

@[simp] theorem State.cfg_setInbox (l : List Input) : (s.setInbox l).cfg = s.cfg := rfl
@[simp] theorem State.prm_setInbox (l : List Input) : (s.setInbox l).prm = s.prm := rfl
@[simp] theorem State.ccyc_setInbox (l : List Input) : (s.setInbox l).ccyc = s.ccyc := rfl
@[simp] theorem State.pcyc_setInbox (l : List Input) : (s.setInbox l).pcyc = s.pcyc := rfl
@[simp] theorem State.dma_setInbox (l : List Input) : (s.setInbox l).dma = s.dma := rfl
@[simp] theorem State.run_setInbox (l : List Input) : (s.setInbox l).run = s.run := rfl
@[simp] theorem State.bank_setInbox (l : List Input) : (s.setInbox l).bank = s.bank := rfl
@[simp] theorem State.bt_setInbox (l : List Input) : (s.setInbox l).bt = s.bt := rfl
@[simp] theorem State.ssr_setInbox (l : List Input) : (s.setInbox l).ssr = s.ssr := rfl
@[simp] theorem State.ram_setInbox (l : List Input) : (s.setInbox l).ram = s.ram := rfl
@[simp] theorem State.bufs_setInbox (l : List Input) : (s.setInbox l).bufs = s.bufs := rfl
@[simp] theorem State.ramDraw_setInbox (l : List Input) : (s.setInbox l).ramDraw = s.ramDraw := rfl
@[simp] theorem State.bufDraw_setInbox (l : List Input) : (s.setInbox l).bufDraw = s.bufDraw := rfl
@[simp] theorem State.ext_setInbox (l : List Input) : (s.setInbox l).ext = s.ext := rfl
@[simp] theorem State.calls_setInbox (l : List Input) : (s.setInbox l).calls = s.calls := rfl
@[simp] theorem State.ret_setInbox (l : List Input) : (s.setInbox l).ret = s.ret := rfl
@[simp] theorem State.inbox_setInbox (l : List Input) : (s.setInbox l).inbox = l := rfl

end Sys2Proof.Machine
end

