-- ==== Sys2Proof/Laws/Memory.lean ====
section
/-! SUPPORT. The laws of memory: a read after a write to the same key gives the byte written, a write
leaves every other key alone, and a write keeps the canonical form and the bound on the keys. -/

namespace Sys2Proof.Machine

theorem memRead_memWrite_same (m : Memory) (k : Nat) (v : Byte) : memRead (memWrite m k v) k = some v := by
  induction m with
  | nil => simp [memWrite, memRead]
  | cons cell rest ih =>
    obtain ⟨k', u⟩ := cell
    simp only [memWrite]
    split
    · simp [memRead]
    · split
      · simp [memRead]
      · have : k' ≠ k := fun h => by simp_all
        simpa [memRead, this] using ih

theorem memRead_memWrite_other (m : Memory) (k j : Nat) (v : Byte) (h : j ≠ k) :
    memRead (memWrite m k v) j = memRead m j := by
  induction m with
  | nil => simp [memWrite, memRead, Ne.symm h]
  | cons cell rest ih =>
    obtain ⟨k', u⟩ := cell
    simp only [memWrite]
    split
    · simp [memRead, Ne.symm h]
    · split
      · rename_i _ e
        subst e
        simp [memRead, Ne.symm h]
      · simp [memRead, ih]

theorem memRead_memWrite (m : Memory) (k j : Nat) (v : Byte) :
    memRead (memWrite m k v) j = if j = k then some v else memRead m j := by
  split
  · rename_i h; rw [h]; exact memRead_memWrite_same m k v
  · rename_i h; exact memRead_memWrite_other m k j v h

theorem memSortedAbove_memWrite (m : Memory) (low k : Nat) (v : Byte) (hk : low < k)
    (h : memSortedAbove low m = true) : memSortedAbove low (memWrite m k v) = true := by
  induction m generalizing low with
  | nil => simp [memWrite, memSortedAbove, hk]
  | cons cell rest ih =>
    obtain ⟨k', u⟩ := cell
    simp only [memSortedAbove, Bool.and_eq_true, decide_eq_true_eq] at h
    simp only [memWrite]
    split
    · rename_i hlt
      simp [memSortedAbove, hk, hlt, h.2]
    · split
      · rename_i _ e
        subst e
        simp [memSortedAbove, hk, h.2]
      · have hk' : k' < k := by omega
        simp [memSortedAbove, h.1, ih k' hk' h.2]

/-- A write keeps the canonical form. -/
theorem memWf_memWrite (m : Memory) (k : Nat) (v : Byte) (h : memWf m = true) :
    memWf (memWrite m k v) = true := by
  cases m with
  | nil => rfl
  | cons cell rest =>
    obtain ⟨k', u⟩ := cell
    simp only [memWf] at h
    simp only [memWrite]
    split
    · rename_i hlt
      simp [memWf, memSortedAbove, hlt, h]
    · split
      · rename_i _ e
        subst e
        simpa [memWf] using h
      · exact memSortedAbove_memWrite rest k' k v (by omega) h

theorem memBelow_cons (bound k : Nat) (v : Byte) (rest : Memory) :
    memBelow bound ((k, v) :: rest) = (decide (k < bound) && memBelow bound rest) := rfl

/-- A write below the bound keeps every key below it. -/
theorem memBelow_memWrite (bound : Nat) (m : Memory) (k : Nat) (v : Byte) (hk : k < bound)
    (h : memBelow bound m = true) : memBelow bound (memWrite m k v) = true := by
  induction m with
  | nil => simp [memWrite, memBelow, hk]
  | cons cell rest ih =>
    obtain ⟨k', u⟩ := cell
    rw [memBelow_cons, Bool.and_eq_true, decide_eq_true_eq] at h
    simp only [memWrite]
    split
    · rw [memBelow_cons, memBelow_cons, h.2]; simp [hk, h.1]
    · split
      · rw [memBelow_cons, h.2]; simp [hk]
      · rw [memBelow_cons, ih h.2]; simp [h.1]

/-- Two bytes of buffers have the same key only if they are the same byte. -/
theorem bufKey_injective (b b' : Nat) (o o' : BitVec 16) (h : bufKey b o = bufKey b' o') :
    b = b' ∧ o = o' := by
  have ho := o.isLt
  have ho' := o'.isLt
  simp only [bufKey] at h
  refine ⟨by omega, BitVec.eq_of_toNat_eq (by omega)⟩

/-- `RAM[o]` after `RAM[o'] <- v`. -/
theorem ramByte_writeRam (s : State) (o o' : BitVec 13) (v : Byte) :
    ramByte (s.writeRam o' v) o = if o = o' then v else ramByte s o := by
  simp only [ramByte, State.ram_writeRam, State.ramDraw_writeRam, memRead_memWrite, BitVec.toNat_inj]
  split <;> rfl

/-- A buffer byte after a write to a buffer. -/
theorem bufByte_writeBuf (s : State) (b b' : Nat) (o o' : BitVec 16) (v : Byte) :
    bufByte (s.writeBuf b' o' v) b o = if b = b' ∧ o = o' then v else bufByte s b o := by
  simp only [bufByte, State.bufs_writeBuf, State.bufDraw_writeBuf, memRead_memWrite]
  by_cases h : b = b' ∧ o = o'
  · simp [h.1, h.2]
  · have hk : bufKey b o ≠ bufKey b' o' := fun e => h (bufKey_injective b b' o o' e)
    simp [h, hk]

end Sys2Proof.Machine
end

