-- ==== Sys2Proof/Laws/Ops.lean ====
section
/-! SUPPORT. What each shared operation can do, said once, to be cited instead of unfolding it. -/

namespace Sys2Proof.Machine

/-- A running block completes, a halted one refuses (R287). -/
theorem running_of_runningAt (s : State) (c : Nat) (k : Nat → State) (h : RunningAt s c) :
    running s k = .next (k c) := by
  simp [running, whenRunning, h]

theorem running_of_halted (s : State) (k : Nat → State) (h : Halted s) :
    running s k = .refused .halted := by
  simp [running, whenRunning, h]

theorem whenRunning_of_runningAt (s : State) (c : Nat) (k : Nat → Host.Outcome State Fault Refusal)
    (h : RunningAt s c) : whenRunning s k = k c := by
  simp [whenRunning, h]

theorem whenRunning_of_halted (s : State) (k : Nat → Host.Outcome State Fault Refusal) (h : Halted s) :
    whenRunning s k = .refused .halted := by
  simp [whenRunning, h]

/-- If an operation that needs a running block answers a next state, the block was running. -/
theorem running_next (s t : State) (k : Nat → State) (h : running s k = .next t) :
    ∃ c, RunningAt s c ∧ t = k c := by
  cases hc : s.ccyc with
  | never => simp [running, whenRunning, hc] at h
  | num c =>
    refine ⟨c, hc, ?_⟩
    simpa [running, whenRunning, hc] using h.symm

theorem whenRunning_next (s t : State) (k : Nat → Host.Outcome State Fault Refusal)
    (h : whenRunning s k = .next t) : ∃ c, RunningAt s c ∧ k c = .next t := by
  cases hc : s.ccyc with
  | never => simp [whenRunning, hc] at h
  | num c => exact ⟨c, hc, by simpa [whenRunning, hc] using h⟩

/-- The wait-state charge is 70 or 77 (the table of R142). -/
theorem waitCharge_cases (c : Nat) : waitCharge c = if c % 7 < 5 then 70 else 77 := by
  have : c % 7 < 7 := Nat.mod_lt _ (by decide)
  unfold waitCharge
  split <;> omega

/-- The three steps in one piece. -/
theorem arb_eq_arbResult (s : State) (c : Nat) (h : RunningAt s c) : arb c s = arbResult s c := by
  have hw := waitCharge_cases c
  unfold arb arbCharge arbStall arbResult
  by_cases h1 : s.dma.conflictClass < 2 ∧ c < s.dma.endCycle
  · by_cases h2 : s.dma.remainingLength = 0
    · simp [stalls, h1.1, h1.2, h2, hw, addCycles, State.setCcyc, State.setPcyc]
    · simp [stalls, h1.1, h1.2, h2, hw, addCycles, setOwed, Nat.one_shiftLeft, State.setCcyc,
        State.setPcyc, State.setRun]
  · have h3 : ¬ (s.dma.conflictClass < 2 ∧ c < s.dma.endCycle ∧ s.dma.remainingLength ≠ 0) :=
      fun x => h1 ⟨x.1, x.2.1⟩
    rw [if_neg h1, if_neg h1, if_neg h3]
    simp [hw, addCycles, h, State.setCcyc, State.setPcyc]

/-- Lockup: two fields, or nothing under the override (R263). -/
theorem lockup_eq (s : State) :
    lockup s = { s with
      ccyc := if s.cfg.forceNoLockup then s.ccyc else .never
      run := if s.cfg.forceNoLockup then s.run else clearEnable s.run } := by
  cases hb : s.cfg.forceNoLockup <;> simp [lockup, hb, State.setCcyc, State.setRun]

theorem clearEnable_testBit (r j : Nat) : (clearEnable r).testBit j = (r.testBit j && decide (j ≠ 0)) := by
  unfold clearEnable
  rw [Nat.testBit_xor, Nat.testBit_and]
  by_cases h : j = 0
  · subst h; simp
  · have : Nat.testBit 1 j = false := by
      rw [← Nat.pow_zero 2, Nat.testBit_two_pow]; simpa using fun e => h e.symm
    simp [h, this]

theorem setOwed_testBit (b r j : Nat) : (setOwed b r).testBit j = (r.testBit j || decide (j = b)) := by
  unfold setOwed
  rw [Nat.one_shiftLeft, Nat.testBit_or, Nat.testBit_two_pow]
  simp [eq_comm]

theorem clearOwed_testBit (b r j : Nat) : (clearOwed b r).testBit j = (r.testBit j && decide (j ≠ b)) := by
  unfold clearOwed
  rw [Nat.testBit_xor, Nat.testBit_and, Nat.one_shiftLeft, Nat.testBit_two_pow]
  by_cases h : b = j
  · subst h; simp
  · simp [h, Ne.symm h]

theorem replaceOthers_testBit (w b r n j : Nat) :
    (replaceOthers w b r n).testBit j =
      if j = b then r.testBit j else decide (j < w) && n.testBit j := by
  unfold replaceOthers
  rw [Nat.testBit_or, clearOwed_testBit, Nat.testBit_mod_two_pow, Nat.testBit_and, Nat.one_shiftLeft,
    Nat.testBit_two_pow]
  by_cases h : j = b
  · simp [h]
  · simp [h, Ne.symm h]

/-- A number whose bits from `w` up are clear is below `2 ^ w`, and the other way round. -/
theorem lt_two_pow_iff (r w : Nat) : r < 2 ^ w ↔ ∀ j, w ≤ j → r.testBit j = false := by
  constructor
  · intro h j hj
    exact Nat.testBit_lt_two_pow (Nat.lt_of_lt_of_le h (Nat.pow_le_pow_right (by decide) hj))
  · intro h
    exact Nat.lt_pow_two_of_testBit r h

/-- Whatever `BSHIFT` is, the low 15 bits of its result are zero (R117). -/
theorem bankShift_aligned (l : ShiftLogic) (b : PAddr) (v : Byte) : bankAligned (bankShift l b v) = true := by
  cases l with
  | serial =>
    simp only [bankAligned, bankShift, beq_iff_eq]
    apply BitVec.eq_of_getLsbD_eq
    intro i hi
    have h2 : (0xFF8000#24).getLsbD i = false := by
      have : ∀ n : Fin 15, (0xFF8000#24).getLsbD n = false := by decide
      exact this ⟨i, hi⟩
    simp [hi, h2]
  | external =>
    simp only [bankAligned, bankShift, beq_iff_eq]
    apply BitVec.eq_of_getLsbD_eq
    intro i hi
    have h2 := BitVec.getLsbD_append (x := Config.bshiftHigh b v) (y := 0#15) (i := i)
    simpa [hi] using h2

/-- A read call: one event, answered from what the collaborator sees before it (R10). -/
theorem callRead_eq (s : State) (c : Call) :
    callRead s c = { s with
      calls := s.calls ++ [c]
      ext := Config.extAfter s.seen c
      ret := some (Config.answer s.seen c) } := rfl

/-- The floating byte: two events, an answer, and nothing else (R266, R54). -/
theorem openBus_eq (s : State) :
    openBus s = { s with
      calls := s.calls ++ [.copPc, .copPeek (Config.copPc s.seen - 1#16)]
      ret := some (Config.answer (s.noteCall .copPc).seen (.copPeek (Config.copPc s.seen - 1#16))) } := by
  simp [openBus, State.noteCall, State.setRet]

/-- `PER.write`: one event, and SSR (R165, R40). -/
theorem callPerWrite_eq (s : State) (p : Port) (d : Byte) (offset : Int) :
    callPerWrite s p d offset = { s with
      calls := s.calls ++ [.perWrite (parity p) d offset]
      ext := Config.extAfter s.seen (.perWrite (parity p) d offset)
      ssr := Config.ssrAfterPerWrite s.seen (.perWrite (parity p) d offset)
      ret := none } := rfl

/-- `BSHIFT`: one event, and BANK (R10, R117). -/
theorem callBshift_eq (s : State) (d : Byte) :
    callBshift s d = { s with
      bank := bankShift s.prm.bshift s.bank d
      calls := s.calls ++ [.bshift s.bank d]
      ext := Config.extAfter s.seen (.bshift s.bank d)
      ret := none } := rfl

/-- A Delegate entry has a handler. -/
theorem isDelegate_iff (e : BtEntry) : isDelegate e = true ↔ ∃ h, e = .delegate h := by
  cases e <;> simp [isDelegate]

/-- A BankTable with one entry replaced (H6). -/
theorem btEntry_set (t : BankTable) (i j : Byte) (e : BtEntry) :
    btEntry (t.set i.toNat e i.isLt) j = if j = i then e else btEntry t j := by
  have hg : ∀ u : BankTable, btEntry u j = u[j.toNat]'j.isLt := fun _ => rfl
  rw [hg, hg, Vector.getElem_set]
  simp only [BitVec.toNat_inj, eq_comm]

/-- The offset of HandheldMode differs from PrimaryConsoleMode's, whatever the free values (R7). -/
theorem ofsHandheld_ne_ofsPrimary : Config.ofsHandheld ≠ Config.ofsPrimary := by
  unfold Config.ofsHandheld
  split <;> omega

end Sys2Proof.Machine
end

