-- ==== Sys2Proof/Laws/PerInstr.lean ====
section
/-! SUPPORT. The family `Carried`, about every operation as syntax: one that is well-formed in a session
is carried by a transaction, and the INTERNAL ones are never well-formed. -/

namespace Sys2Proof.Laws.Carried

/-- A well-formed operation has a transaction that carries it (30_encoding.md R91, R92). -/
def Statement (i : Instr) : Prop := ∀ c : Ctx, WellFormed c i = true → ∃ t, transactionFor i = some t

theorem mrRam (a : Addr) : Statement (.mrRam a) := fun _ _ => ⟨_, rfl⟩
theorem mwRam (a : Addr) (d : Byte) : Statement (.mwRam a d) := fun _ _ => ⟨_, rfl⟩
theorem mrSnd (a : Addr) : Statement (.mrSnd a) := fun _ _ => ⟨_, rfl⟩
theorem mwSnd (a : Addr) (d : Byte) : Statement (.mwSnd a d) := fun _ _ => ⟨_, rfl⟩
theorem mrVid (a : Addr) : Statement (.mrVid a) := fun _ _ => ⟨_, rfl⟩
theorem mwVid (a : Addr) (d : Byte) : Statement (.mwVid a d) := fun _ _ => ⟨_, rfl⟩
theorem mwBsel (a : Addr) (d : Byte) : Statement (.mwBsel a d) := fun _ _ => ⟨_, rfl⟩
theorem mrCunused (a : Addr) : Statement (.mrCunused a) := fun _ _ => ⟨_, rfl⟩
theorem mwCunused (a : Addr) (d : Byte) : Statement (.mwCunused a d) := fun _ _ => ⟨_, rfl⟩
theorem mrBank (a : Addr) : Statement (.mrBank a) := fun _ _ => ⟨_, rfl⟩
theorem mwBank (a : Addr) (d : Byte) : Statement (.mwBank a d) := fun _ _ => ⟨_, rfl⟩
theorem prVdata (p : Port) : Statement (.prVdata p) := fun _ _ => ⟨_, rfl⟩
theorem pwVdata (p : Port) (d : Byte) : Statement (.pwVdata p d) := fun _ _ => ⟨_, rfl⟩
theorem prVctrl (p : Port) : Statement (.prVctrl p) := fun _ _ => ⟨_, rfl⟩
theorem pwVctrl (p : Port) (d : Byte) : Statement (.pwVctrl p d) := fun _ _ => ⟨_, rfl⟩
theorem pwSgen (p : Port) (d : Byte) : Statement (.pwSgen p d) := fun _ _ => ⟨_, rfl⟩
theorem prHv (p : Port) : Statement (.prHv p) := fun _ _ => ⟨_, rfl⟩
theorem pw0Per (p : Port) (d : Byte) : Statement (.pw0Per p d) := fun _ _ => ⟨_, rfl⟩
theorem pr0B00 (p : Port) : Statement (.pr0B00 p) := fun _ _ => ⟨_, rfl⟩
theorem pr0Hv (p : Port) : Statement (.pr0Hv p) := fun _ _ => ⟨_, rfl⟩
theorem pr0Fm (p : Port) : Statement (.pr0Fm p) := fun _ _ => ⟨_, rfl⟩
theorem pw0Fm (p : Port) (d : Byte) : Statement (.pw0Fm p d) := fun _ _ => ⟨_, rfl⟩
theorem pr0Def (p : Port) : Statement (.pr0Def p) := fun _ _ => ⟨_, rfl⟩
theorem pw0Def (p : Port) (d : Byte) : Statement (.pw0Def p d) := fun _ _ => ⟨_, rfl⟩
theorem pr1Hio (p : Port) : Statement (.pr1Hio p) := fun _ _ => ⟨_, rfl⟩
theorem pw1Hio (p : Port) (d : Byte) : Statement (.pw1Hio p d) := fun _ _ => ⟨_, rfl⟩
theorem pr1Per3E (p : Port) : Statement (.pr1Per3E p) := fun _ _ => ⟨_, rfl⟩
theorem pw1Per3E (p : Port) (d : Byte) : Statement (.pw1Per3E p d) := fun _ _ => ⟨_, rfl⟩
theorem pr1B00 (p : Port) : Statement (.pr1B00 p) := fun _ _ => ⟨_, rfl⟩
theorem pw1B00 (p : Port) (d : Byte) : Statement (.pw1B00 p d) := fun _ _ => ⟨_, rfl⟩
theorem pr1Def (p : Port) : Statement (.pr1Def p) := fun _ _ => ⟨_, rfl⟩
theorem pw1Def (p : Port) (d : Byte) : Statement (.pw1Def p d) := fun _ _ => ⟨_, rfl⟩
theorem pw2Per (p : Port) (d : Byte) : Statement (.pw2Per p d) := fun _ _ => ⟨_, rfl⟩
theorem pw2B00 (p : Port) (d : Byte) : Statement (.pw2B00 p d) := fun _ _ => ⟨_, rfl⟩
theorem pr2B00 (p : Port) : Statement (.pr2B00 p) := fun _ _ => ⟨_, rfl⟩
theorem pr2Tfm (p : Port) : Statement (.pr2Tfm p) := fun _ _ => ⟨_, rfl⟩
theorem pw2Tfm (p : Port) (d : Byte) : Statement (.pw2Tfm p d) := fun _ _ => ⟨_, rfl⟩
theorem pw2Actl (p : Port) (d : Byte) : Statement (.pw2Actl p d) := fun _ _ => ⟨_, rfl⟩
theorem pr2Xfm (p : Port) : Statement (.pr2Xfm p) := fun _ _ => ⟨_, rfl⟩
theorem pw2Xfm (p : Port) (d : Byte) : Statement (.pw2Xfm p d) := fun _ _ => ⟨_, rfl⟩
theorem pr2Perg (p : Port) : Statement (.pr2Perg p) := fun _ _ => ⟨_, rfl⟩
theorem pr2Def (p : Port) : Statement (.pr2Def p) := fun _ _ => ⟨_, rfl⟩
theorem pw2Def (p : Port) (d : Byte) : Statement (.pw2Def p d) := fun _ _ => ⟨_, rfl⟩
theorem pr3B00 (p : Port) : Statement (.pr3B00 p) := fun _ _ => ⟨_, rfl⟩
theorem pw3B00 (p : Port) (d : Byte) : Statement (.pw3B00 p d) := fun _ _ => ⟨_, rfl⟩
theorem pr3Fm (p : Port) : Statement (.pr3Fm p) := fun _ _ => ⟨_, rfl⟩
theorem pw3Fm (p : Port) (d : Byte) : Statement (.pw3Fm p d) := fun _ _ => ⟨_, rfl⟩
theorem pr3Def (p : Port) : Statement (.pr3Def p) := fun _ _ => ⟨_, rfl⟩
theorem pw3Def (p : Port) (d : Byte) : Statement (.pw3Def p d) := fun _ _ => ⟨_, rfl⟩
theorem pr3Per (p : Port) : Statement (.pr3Per p) := fun _ _ => ⟨_, rfl⟩
theorem pw3Per (p : Port) (d : Byte) : Statement (.pw3Per p d) := fun _ _ => ⟨_, rfl⟩
theorem pr4B00 (p : Port) : Statement (.pr4B00 p) := fun _ _ => ⟨_, rfl⟩
theorem pw4B00 (p : Port) (d : Byte) : Statement (.pw4B00 p d) := fun _ _ => ⟨_, rfl⟩
theorem pr4B40 (p : Port) : Statement (.pr4B40 p) := fun _ _ => ⟨_, rfl⟩
theorem pw4Sgen (p : Port) (d : Byte) : Statement (.pw4Sgen p d) := fun _ _ => ⟨_, rfl⟩
theorem pr4Vctrl (p : Port) : Statement (.pr4Vctrl p) := fun _ _ => ⟨_, rfl⟩
theorem pw4Vctrl (p : Port) (d : Byte) : Statement (.pw4Vctrl p d) := fun _ _ => ⟨_, rfl⟩
theorem pr4Per (p : Port) : Statement (.pr4Per p) := fun _ _ => ⟨_, rfl⟩
theorem pw4Def (p : Port) (d : Byte) : Statement (.pw4Def p d) := fun _ _ => ⟨_, rfl⟩
theorem arb : Statement (.arb) := fun _ h => by simp [WellFormed] at h
theorem umr (ea : PAddr) : Statement (.umr ea) := fun _ h => by simp [WellFormed] at h
theorem umw (ea : PAddr) (d : Byte) : Statement (.umw ea d) := fun _ h => by simp [WellFormed] at h
theorem lkr (ea : PAddr) : Statement (.lkr ea) := fun _ h => by simp [WellFormed] at h
theorem lkw (ea : PAddr) (d : Byte) : Statement (.lkw ea d) := fun _ h => by simp [WellFormed] at h
theorem upr (p : Port) : Statement (.upr p) := fun _ h => by simp [WellFormed] at h
theorem upw (p : Port) (d : Byte) : Statement (.upw p d) := fun _ h => by simp [WellFormed] at h

end Sys2Proof.Laws.Carried
end

