-- ==== Sys2Proof/Tests/Slice0.lean ====
section
/-! SUPPORT. The model's own tests. Expected results are the vectors T1 to T224 of 95_test_vectors.md and
the encodings of the rules; the words are written out as fields: data byte, zeros, V, IO, W, A. Then, for
every statement with hypotheses, a witness that meets them, clause by clause. -/

namespace Sys2Proof.Tests

open Sys2Proof Sys2Proof.Machine

/-! ### Helpers -/

/-- A session of a variant: territory, FM flag, handheld hardware, open-bus family. `AMP` is 7. -/
def cfgOf (v : Variant) (t fm hw ob : Bool) : Cfg where
  variant := v
  regionIsT := t
  fmEnabled := fm
  amplifierLevel := 7
  forceNoLockup := false
  handheldHwSelected := hw
  openBusFamily := ob

def ctxOf (v : Variant) (t fm hw : Bool) (ssr : Byte) : Ctx where
  cfg := cfgOf v t fm hw false
  prm := Prm.defaults
  ssr := ssr

/-- A running block of such a session at `CCYC = c`, `PCYC = 5000`, nothing contending. -/
def stOf (v : Variant) (t fm hw ob : Bool) (c : Nat) : State :=
  { State.reset with
    cfg := cfgOf v t fm hw ob
    ccyc := .num c
    pcyc := 5000
    dma := { endCycle := 0, remainingLength := 0, conflictClass := 3 } }

/-- PrimaryConsoleMode with the FM flag at `CCYC = c`. -/
def stV0 (c : Nat) : State := stOf .primary false true false false c

/-- A live transfer at the counter 1000 of T85. -/
def stT85 : State :=
  { stV0 1000 with pcyc := 100, dma := { endCycle := 1500, remainingLength := 8, conflictClass := 0 } }

/-- `s` with entry `e` at index `i` of the BankTable and BANK at `b`. -/
def banked (s : State) (b : PAddr) (i : Fin 256) (e : BtEntry) : State :=
  { s with bank := b, bt := s.bt.set i e }

/-- A halted block. -/
def stHalted : State := { stV0 0 with ccyc := .never, run := 4 }

def nextOf (o : Host.Outcome State Fault Refusal) : Option State :=
  match o with
  | .next s => some s
  | _ => none

def refusalOf (o : Host.Outcome State Fault Refusal) : Option Refusal :=
  match o with
  | .refused r => some r
  | _ => none

/-- The state after one step with the transaction `t`. -/
def after (s : State) (t : Transaction) : Option State := nextOf (step (submit s t))

/-- The word of a transaction, field by field. -/
def word (d : BitVec 8) (v : BitVec 3) (io w : BitVec 1) (a : BitVec 16) : TxnWord :=
  d ++ 0b000#3 ++ v ++ io ++ w ++ a

/-- An external reset with these choices of the BankTable and of the two draws; SSR is kept. -/
def resetChoice (bt : Option BankTable) (redrawRam redrawBufs : Option Nat) : ResetChoice where
  ccyc := 0
  pcyc := 0
  dma := { endCycle := 0, remainingLength := 0, conflictClass := 0 }
  run := 1
  bankHigh := 0#9
  bt := bt
  ssr := none
  redrawRam := redrawRam
  redrawBufs := redrawBufs

def decoded (c : Ctx) (w : TxnWord) : Option Instr := (decode c w).toOption

/-! ### Well-formedness: each check refuses an ill-formed term, and admits a well-formed one -/

theorem test_wf_memory :
    WellFormed (ctxOf .primary false true false 0x00#8) (.mrRam 0x3FFF#16) = true ∧
    WellFormed (ctxOf .primary false true false 0x00#8) (.mrRam 0x4000#16) = false ∧
    WellFormed (ctxOf .primary false true false 0x00#8) (.mwRam 0x0000#16 0#8) = true ∧
    WellFormed (ctxOf .primary false true false 0x00#8) (.mwRam 0x4000#16 0#8) = false ∧
    WellFormed (ctxOf .primary false true false 0x00#8) (.mrSnd 0x4000#16) = true ∧
    WellFormed (ctxOf .primary false true false 0x00#8) (.mrSnd 0x3FFF#16) = false ∧
    WellFormed (ctxOf .primary false true false 0x00#8) (.mrSnd 0x6000#16) = false ∧
    WellFormed (ctxOf .primary false true false 0x00#8) (.mwSnd 0x5FFF#16 0#8) = true ∧
    WellFormed (ctxOf .primary false true false 0x00#8) (.mwSnd 0x6000#16 0#8) = false ∧
    WellFormed (ctxOf .primary false true false 0x00#8) (.mrVid 0x7F00#16) = true ∧
    WellFormed (ctxOf .primary false true false 0x00#8) (.mrVid 0x7EFF#16) = false ∧
    WellFormed (ctxOf .primary false true false 0x00#8) (.mrVid 0x8000#16) = false ∧
    WellFormed (ctxOf .primary false true false 0x00#8) (.mwVid 0x7FFF#16 0#8) = true ∧
    WellFormed (ctxOf .primary false true false 0x00#8) (.mwVid 0x7E00#16 0#8) = false ∧
    WellFormed (ctxOf .primary false true false 0x00#8) (.mwBsel 0x60FF#16 0#8) = true ∧
    WellFormed (ctxOf .primary false true false 0x00#8) (.mwBsel 0x6100#16 0#8) = false ∧
    WellFormed (ctxOf .primary false true false 0x00#8) (.mrCunused 0x6000#16) = true ∧
    WellFormed (ctxOf .primary false true false 0x00#8) (.mrCunused 0x7F00#16) = false ∧
    WellFormed (ctxOf .primary false true false 0x00#8) (.mrCunused 0x8000#16) = false ∧
    WellFormed (ctxOf .primary false true false 0x00#8) (.mwCunused 0x7EFF#16 0#8) = true ∧
    WellFormed (ctxOf .primary false true false 0x00#8) (.mwCunused 0x6000#16 0#8) = false ∧
    WellFormed (ctxOf .primary false true false 0x00#8) (.mwCunused 0x7F00#16 0#8) = false ∧
    WellFormed (ctxOf .primary false true false 0x00#8) (.mwCunused 0x5FFF#16 0#8) = false ∧
    WellFormed (ctxOf .primary false true false 0x00#8) (.mrBank 0x8000#16) = true ∧
    WellFormed (ctxOf .primary false true false 0x00#8) (.mrBank 0x7FFF#16) = false ∧
    WellFormed (ctxOf .primary false true false 0x00#8) (.mwBank 0xFFFF#16 0#8) = true ∧
    WellFormed (ctxOf .primary false true false 0x00#8) (.mwBank 0x7FFF#16 0#8) = false := by decide

theorem test_wf_shared :
    WellFormed (ctxOf .firstGen false true false 0x00#8) (.prVdata 0xBE#8) = true ∧
    WellFormed (ctxOf .primary false true false 0x00#8) (.prVdata 0x81#8) = false ∧
    WellFormed (ctxOf .primary false true false 0x00#8) (.prVdata 0xC0#8) = false ∧
    WellFormed (ctxOf .primary false true false 0x00#8) (.pwVdata 0x80#8 0#8) = true ∧
    WellFormed (ctxOf .primary false true false 0x00#8) (.pwVdata 0x7E#8 0#8) = false ∧
    WellFormed (ctxOf .primary false true false 0x00#8) (.prVctrl 0xBF#8) = true ∧
    WellFormed (ctxOf .primary false true false 0x00#8) (.prVctrl 0x80#8) = false ∧
    WellFormed (ctxOf .firstGen false true false 0x00#8) (.prVctrl 0x81#8) = false ∧
    WellFormed (ctxOf .legacy false true false 0x00#8) (.pwVctrl 0x81#8 0#8) = true ∧
    WellFormed (ctxOf .primary false true false 0x00#8) (.pwVctrl 0xC1#8 0#8) = false ∧
    WellFormed (ctxOf .firstGen false true false 0x00#8) (.pwVctrl 0x81#8 0#8) = false ∧
    WellFormed (ctxOf .primary false true false 0x00#8) (.pwSgen 0x7F#8 0#8) = true ∧
    WellFormed (ctxOf .primary false true false 0x00#8) (.pwSgen 0x80#8 0#8) = false ∧
    WellFormed (ctxOf .firstGen false true false 0x00#8) (.pwSgen 0x40#8 0#8) = false ∧
    WellFormed (ctxOf .handheld false true false 0x00#8) (.prHv 0x40#8) = true ∧
    WellFormed (ctxOf .handheld false true false 0x00#8) (.prHv 0x3F#8) = false ∧
    WellFormed (ctxOf .primary false true false 0x00#8) (.prHv 0x40#8) = false ∧
    WellFormed (ctxOf .firstGen false true false 0x00#8) (.prHv 0x40#8) = false := by decide

theorem test_wf_primary :
    WellFormed (ctxOf .primary false true false 0x00#8) (.pw0Per 0x3F#8 0#8) = true ∧
    WellFormed (ctxOf .primary false true false 0x00#8) (.pw0Per 0x40#8 0#8) = false ∧
    WellFormed (ctxOf .handheld false true false 0x00#8) (.pw0Per 0x00#8 0#8) = false ∧
    WellFormed (ctxOf .primary false true false 0x00#8) (.pr0B00 0x3F#8) = true ∧
    WellFormed (ctxOf .primary false true false 0x00#8) (.pr0B00 0x40#8) = false ∧
    WellFormed (ctxOf .handheld false true false 0x00#8) (.pr0B00 0x00#8) = false ∧
    WellFormed (ctxOf .primary false true false 0x00#8) (.pr0Hv 0x40#8) = true ∧
    WellFormed (ctxOf .primary false true false 0x00#8) (.pr0Hv 0x80#8) = false ∧
    WellFormed (ctxOf .handheld false true false 0x00#8) (.pr0Hv 0x40#8) = false ∧
    WellFormed (ctxOf .primary false true false 0x00#8) (.pr0Fm 0xF0#8) = true ∧
    WellFormed (ctxOf .primary false true false 0x00#8) (.pr0Fm 0xEF#8) = false ∧
    WellFormed (ctxOf .primary false false false 0x00#8) (.pr0Fm 0xF0#8) = false ∧
    WellFormed (ctxOf .standard false true false 0x00#8) (.pr0Fm 0xF0#8) = false ∧
    WellFormed (ctxOf .primary false true false 0x00#8) (.pw0Fm 0xFF#8 0#8) = true ∧
    WellFormed (ctxOf .primary false true false 0x00#8) (.pw0Fm 0xEF#8 0#8) = false ∧
    WellFormed (ctxOf .primary false false false 0x00#8) (.pw0Fm 0xF0#8 0#8) = false ∧
    WellFormed (ctxOf .primary false true false 0x00#8) (.pr0Def 0xEF#8) = true ∧
    WellFormed (ctxOf .primary false true false 0x00#8) (.pr0Def 0xF0#8) = false ∧
    WellFormed (ctxOf .primary false true false 0x00#8) (.pr0Def 0xBF#8) = false ∧
    WellFormed (ctxOf .handheld false true false 0x00#8) (.pr0Def 0xC0#8) = false ∧
    WellFormed (ctxOf .primary false false false 0x00#8) (.pw0Def 0xF0#8 0#8) = true ∧
    WellFormed (ctxOf .primary false true false 0x00#8) (.pw0Def 0xF0#8 0#8) = false := by decide

theorem test_wf_handheld :
    WellFormed (ctxOf .handheld false true true 0x00#8) (.pr1Hio 0x06#8) = true ∧
    WellFormed (ctxOf .handheld false true true 0x00#8) (.pr1Hio 0x07#8) = false ∧
    WellFormed (ctxOf .handheld false true false 0x00#8) (.pr1Hio 0x00#8) = false ∧
    WellFormed (ctxOf .primary false true false 0x00#8) (.pr1Hio 0x00#8) = false ∧
    WellFormed (ctxOf .handheld false true true 0x00#8) (.pw1Hio 0x00#8 0#8) = true ∧
    WellFormed (ctxOf .handheld false true true 0x00#8) (.pw1Hio 0x07#8 0#8) = false ∧
    WellFormed (ctxOf .handheld false true false 0x00#8) (.pw1Hio 0x00#8 0#8) = false ∧
    WellFormed (ctxOf .handheld false true false 0x00#8) (.pr1Per3E 0x3F#8) = true ∧
    WellFormed (ctxOf .handheld false true false 0x00#8) (.pr1Per3E 0x3D#8) = false ∧
    WellFormed (ctxOf .primary false true false 0x00#8) (.pr1Per3E 0x3E#8) = false ∧
    WellFormed (ctxOf .handheld false true false 0x00#8) (.pw1Per3E 0x3E#8 0#8) = true ∧
    WellFormed (ctxOf .handheld false true false 0x00#8) (.pw1Per3E 0x40#8 0#8) = false ∧
    WellFormed (ctxOf .handheld false true false 0x00#8) (.pr1B00 0x00#8) = true ∧
    WellFormed (ctxOf .handheld false true true 0x00#8) (.pr1B00 0x06#8) = false ∧
    WellFormed (ctxOf .handheld false true false 0x00#8) (.pr1B00 0x3E#8) = false ∧
    WellFormed (ctxOf .handheld false true false 0x00#8) (.pr1B00 0x40#8) = false ∧
    WellFormed (ctxOf .handheld false true true 0x00#8) (.pw1B00 0x07#8 0#8) = true ∧
    WellFormed (ctxOf .handheld false true true 0x00#8) (.pw1B00 0x00#8 0#8) = false ∧
    WellFormed (ctxOf .handheld false true false 0x00#8) (.pw1B00 0x3F#8 0#8) = false ∧
    WellFormed (ctxOf .handheld false true false 0x00#8) (.pr1Def 0xC0#8) = true ∧
    WellFormed (ctxOf .handheld false true false 0x00#8) (.pr1Def 0xBF#8) = false ∧
    WellFormed (ctxOf .firstGen false true false 0x00#8) (.pr1Def 0xC0#8) = false ∧
    WellFormed (ctxOf .handheld false true false 0x00#8) (.pw1Def 0xF2#8 0#8) = true ∧
    WellFormed (ctxOf .handheld false true false 0x00#8) (.pw1Def 0xBE#8 0#8) = false := by decide

theorem test_wf_standard :
    WellFormed (ctxOf .standard false true false 0x00#8) (.pw2Per 0x01#8 0#8) = true ∧
    WellFormed (ctxOf .standard true true false 0x00#8) (.pw2Per 0x01#8 0#8) = false ∧
    WellFormed (ctxOf .standard false true false 0x00#8) (.pw2Per 0x40#8 0#8) = false ∧
    WellFormed (ctxOf .handheld false true false 0x00#8) (.pw2Per 0x01#8 0#8) = false ∧
    WellFormed (ctxOf .standard true true false 0x00#8) (.pw2B00 0x3D#8 0#8) = true ∧
    WellFormed (ctxOf .standard true true false 0x00#8) (.pw2B00 0x3E#8 0#8) = false ∧
    WellFormed (ctxOf .standard false true false 0x00#8) (.pw2B00 0x3D#8 0#8) = false ∧
    WellFormed (ctxOf .standard false true false 0x00#8) (.pr2B00 0x3F#8) = true ∧
    WellFormed (ctxOf .standard false true false 0x00#8) (.pr2B00 0x40#8) = false ∧
    WellFormed (ctxOf .legacy false true false 0x00#8) (.pr2B00 0x00#8) = false ∧
    WellFormed (ctxOf .standard true true false 0x00#8) (.pr2Tfm 0xF1#8) = true ∧
    WellFormed (ctxOf .standard true true false 0x00#8) (.pr2Tfm 0xF2#8) = false ∧
    WellFormed (ctxOf .standard true false false 0x00#8) (.pr2Tfm 0xF0#8) = false ∧
    WellFormed (ctxOf .standard false true false 0x00#8) (.pr2Tfm 0xF0#8) = false ∧
    WellFormed (ctxOf .standard true true false 0x00#8) (.pw2Tfm 0xF0#8 0#8) = true ∧
    WellFormed (ctxOf .standard true true false 0x00#8) (.pw2Tfm 0xF3#8 0#8) = false ∧
    WellFormed (ctxOf .standard false true false 0x00#8) (.pw2Tfm 0xF0#8 0#8) = false ∧
    WellFormed (ctxOf .standard true true false 0x00#8) (.pw2Actl 0xF2#8 0#8) = true ∧
    WellFormed (ctxOf .standard true true false 0x00#8) (.pw2Actl 0xF1#8 0#8) = false ∧
    WellFormed (ctxOf .standard true false false 0x00#8) (.pw2Actl 0xF2#8 0#8) = false ∧
    WellFormed (ctxOf .standard false true false 0x00#8) (.pw2Actl 0xF2#8 0#8) = false ∧
    WellFormed (ctxOf .standard false true false 0x00#8) (.pr2Xfm 0xF2#8) = true ∧
    WellFormed (ctxOf .standard false true false 0x00#8) (.pr2Xfm 0xF4#8) = false ∧
    WellFormed (ctxOf .standard true true false 0x00#8) (.pr2Xfm 0xF2#8) = false ∧
    WellFormed (ctxOf .standard false false false 0x00#8) (.pr2Xfm 0xF2#8) = false ∧
    WellFormed (ctxOf .standard false true false 0x00#8) (.pw2Xfm 0xC3#8 0#8) = true ∧
    WellFormed (ctxOf .standard false true false 0x00#8) (.pw2Xfm 0xC4#8 0#8) = false ∧
    WellFormed (ctxOf .standard true true false 0x00#8) (.pw2Xfm 0xC0#8 0#8) = false ∧
    WellFormed (ctxOf .standard false true false 0x00#8) (.pr2Perg 0xDC#8) = true ∧
    WellFormed (ctxOf .standard false true false 0x04#8) (.pr2Perg 0xDC#8) = false ∧
    WellFormed (ctxOf .standard false true false 0x00#8) (.pr2Perg 0xD8#8) = false ∧
    WellFormed (ctxOf .standard true true false 0x00#8) (.pr2Perg 0xDC#8) = false ∧
    WellFormed (ctxOf .standard false false false 0x00#8) (.pr2Perg 0xDC#8) = false ∧
    WellFormed (ctxOf .standard false true false 0x04#8) (.pr2Def 0xDC#8) = true ∧
    WellFormed (ctxOf .standard false true false 0x00#8) (.pr2Def 0xDC#8) = false ∧
    WellFormed (ctxOf .standard false true false 0x00#8) (.pr2Def 0xD8#8) = false ∧
    WellFormed (ctxOf .standard true true false 0x00#8) (.pr2Def 0xF0#8) = false ∧
    WellFormed (ctxOf .standard true true false 0x00#8) (.pw2Def 0xF3#8 0#8) = true ∧
    WellFormed (ctxOf .standard true true false 0x00#8) (.pw2Def 0xF2#8 0#8) = false ∧
    WellFormed (ctxOf .standard true true false 0x00#8) (.pw2Def 0xF1#8 0#8) = false ∧
    WellFormed (ctxOf .standard false true false 0x00#8) (.pw2Def 0xC0#8 0#8) = false := by decide

theorem test_wf_legacy :
    WellFormed (ctxOf .legacy false true false 0x00#8) (.pr3B00 0x3F#8) = true ∧
    WellFormed (ctxOf .legacy false true false 0x00#8) (.pr3B00 0x40#8) = false ∧
    WellFormed (ctxOf .standard false true false 0x00#8) (.pr3B00 0x00#8) = false ∧
    WellFormed (ctxOf .legacy false true false 0x00#8) (.pw3B00 0x00#8 0#8) = true ∧
    WellFormed (ctxOf .legacy false true false 0x00#8) (.pw3B00 0x40#8 0#8) = false ∧
    WellFormed (ctxOf .legacy false true false 0x00#8) (.pr3Fm 0xF2#8) = true ∧
    WellFormed (ctxOf .legacy false true false 0x00#8) (.pr3Fm 0xF4#8) = false ∧
    WellFormed (ctxOf .legacy false false false 0x04#8) (.pr3Fm 0xF2#8) = false ∧
    WellFormed (ctxOf .legacy false true false 0x00#8) (.pw3Fm 0xF3#8 0#8) = true ∧
    WellFormed (ctxOf .legacy false true false 0x00#8) (.pw3Fm 0xF4#8 0#8) = false ∧
    WellFormed (ctxOf .legacy false false false 0x04#8) (.pw3Fm 0xF0#8 0#8) = false ∧
    WellFormed (ctxOf .legacy false true false 0x00#8) (.pr3Def 0xDC#8) = true ∧
    WellFormed (ctxOf .legacy false true false 0x00#8) (.pr3Def 0xD8#8) = false ∧
    WellFormed (ctxOf .legacy false false false 0x04#8) (.pr3Def 0xDC#8) = false ∧
    WellFormed (ctxOf .legacy false true false 0x00#8) (.pw3Def 0xF4#8 0#8) = true ∧
    WellFormed (ctxOf .legacy false true false 0x00#8) (.pw3Def 0xF0#8 0#8) = false ∧
    WellFormed (ctxOf .legacy false false false 0x04#8) (.pw3Def 0xF4#8 0#8) = false ∧
    WellFormed (ctxOf .legacy false false false 0x04#8) (.pr3Per 0xDD#8) = true ∧
    WellFormed (ctxOf .legacy false true false 0x00#8) (.pr3Per 0xDD#8) = false ∧
    WellFormed (ctxOf .legacy false false false 0x04#8) (.pr3Per 0x3F#8) = false ∧
    WellFormed (ctxOf .legacy false false false 0x04#8) (.pw3Per 0xC0#8 0#8) = true ∧
    WellFormed (ctxOf .legacy false true false 0x00#8) (.pw3Per 0xC0#8 0#8) = false := by decide

theorem test_wf_firstGen :
    WellFormed (ctxOf .firstGen false true false 0x00#8) (.pr4B00 0x00#8) = true ∧
    WellFormed (ctxOf .firstGen false true false 0x00#8) (.pr4B00 0x40#8) = false ∧
    WellFormed (ctxOf .primary false true false 0x00#8) (.pr4B00 0x00#8) = false ∧
    WellFormed (ctxOf .firstGen false true false 0x00#8) (.pw4B00 0x3F#8 0#8) = true ∧
    WellFormed (ctxOf .firstGen false true false 0x00#8) (.pw4B00 0x40#8 0#8) = false ∧
    WellFormed (ctxOf .firstGen false true false 0x00#8) (.pr4B40 0x41#8) = true ∧
    WellFormed (ctxOf .firstGen false true false 0x00#8) (.pr4B40 0x80#8) = false ∧
    WellFormed (ctxOf .standard false true false 0x00#8) (.pr4B40 0x41#8) = false ∧
    WellFormed (ctxOf .firstGen false true false 0x00#8) (.pw4Sgen 0x7E#8 0#8) = true ∧
    WellFormed (ctxOf .firstGen false true false 0x00#8) (.pw4Sgen 0x80#8 0#8) = false ∧
    WellFormed (ctxOf .primary false true false 0x00#8) (.pw4Sgen 0x40#8 0#8) = false ∧
    WellFormed (ctxOf .firstGen false true false 0x00#8) (.pr4Vctrl 0xBF#8) = true ∧
    WellFormed (ctxOf .firstGen false true false 0x00#8) (.pr4Vctrl 0xBE#8) = false ∧
    WellFormed (ctxOf .primary false true false 0x00#8) (.pr4Vctrl 0xBF#8) = false ∧
    WellFormed (ctxOf .firstGen false true false 0x00#8) (.pw4Vctrl 0x81#8 0#8) = true ∧
    WellFormed (ctxOf .firstGen false true false 0x00#8) (.pw4Vctrl 0xC1#8 0#8) = false ∧
    WellFormed (ctxOf .firstGen false true false 0x00#8) (.pr4Per 0xFF#8) = true ∧
    WellFormed (ctxOf .firstGen false true false 0x00#8) (.pr4Per 0xBF#8) = false ∧
    WellFormed (ctxOf .firstGen false true false 0x00#8) (.pw4Def 0xF0#8 0#8) = true ∧
    WellFormed (ctxOf .firstGen false true false 0x00#8) (.pw4Def 0xBF#8 0#8) = false := by decide

theorem test_wf_internal :
    WellFormed (ctxOf .primary false true false 0x00#8) .arb = false ∧
    WellFormed (ctxOf .primary false true false 0x00#8) (.umr 0x000000#24) = false ∧
    WellFormed (ctxOf .primary false true false 0x00#8) (.umw 0x000000#24 0#8) = false ∧
    WellFormed (ctxOf .primary false true false 0x00#8) (.lkr 0x000000#24) = false ∧
    WellFormed (ctxOf .primary false true false 0x00#8) (.lkw 0x000000#24 0#8) = false ∧
    WellFormed (ctxOf .primary false true false 0x00#8) (.upr 0x00#8) = false ∧
    WellFormed (ctxOf .primary false true false 0x00#8) (.upw 0x00#8 0#8) = false := by decide

/-! ### Decoding: a word of every operation, written out from its encoding -/

theorem test_decode_memory :
    decoded (ctxOf .firstGen false true false 0x00#8) (word 0b00000000#8 0b000#3 0b0#1 0b0#1 0b0011111111111111#16) =
      some (.mrRam 0x3FFF#16) ∧
    decoded (ctxOf .primary false true false 0x00#8) (word 0b00110011#8 0b000#3 0b0#1 0b1#1 0b0010000000000000#16) =
      some (.mwRam 0x2000#16 0x33#8) ∧
    decoded (ctxOf .primary false true false 0x00#8) (word 0b00000000#8 0b000#3 0b0#1 0b0#1 0b0101111111111111#16) =
      some (.mrSnd 0x5FFF#16) ∧
    decoded (ctxOf .primary false true false 0x00#8) (word 0b10000000#8 0b000#3 0b0#1 0b1#1 0b0100000000000110#16) =
      some (.mwSnd 0x4006#16 0x80#8) ∧
    decoded (ctxOf .primary false true false 0x00#8) (word 0b00000000#8 0b000#3 0b0#1 0b0#1 0b0111111100000100#16) =
      some (.mrVid 0x7F04#16) ∧
    decoded (ctxOf .primary false true false 0x00#8) (word 0b10011111#8 0b000#3 0b0#1 0b1#1 0b0111111100010001#16) =
      some (.mwVid 0x7F11#16 0x9F#8) ∧
    decoded (ctxOf .primary false true false 0x00#8) (word 0b11111110#8 0b000#3 0b0#1 0b1#1 0b0110000010101011#16) =
      some (.mwBsel 0x60AB#16 0xFE#8) ∧
    decoded (ctxOf .primary false true false 0x00#8) (word 0b00000000#8 0b000#3 0b0#1 0b0#1 0b0110000000000000#16) =
      some (.mrCunused 0x6000#16) ∧
    decoded (ctxOf .primary false true false 0x00#8) (word 0b01010101#8 0b000#3 0b0#1 0b1#1 0b0111111000000000#16) =
      some (.mwCunused 0x7E00#16 0x55#8) ∧
    decoded (ctxOf .primary false true false 0x00#8) (word 0b00000000#8 0b000#3 0b0#1 0b0#1 0b1001001000110100#16) =
      some (.mrBank 0x9234#16) ∧
    decoded (ctxOf .primary false true false 0x00#8) (word 0b01110111#8 0b000#3 0b0#1 0b1#1 0b1111111111111111#16) =
      some (.mwBank 0xFFFF#16 0x77#8) := by decide

theorem test_decode_shared :
    decoded (ctxOf .standard false true false 0x00#8) (word 0b00000000#8 0b010#3 0b1#1 0b0#1 0b0000000010111110#16) =
      some (.prVdata 0xBE#8) ∧
    decoded (ctxOf .firstGen false true false 0x00#8) (word 0b00111100#8 0b100#3 0b1#1 0b1#1 0b0000000010000000#16) =
      some (.pwVdata 0x80#8 0x3C#8) ∧
    decoded (ctxOf .handheld false true false 0x00#8) (word 0b00000000#8 0b001#3 0b1#1 0b0#1 0b0000000010111111#16) =
      some (.prVctrl 0xBF#8) ∧
    decoded (ctxOf .legacy false true false 0x00#8) (word 0b10000000#8 0b011#3 0b1#1 0b1#1 0b0000000010000001#16) =
      some (.pwVctrl 0x81#8 0x80#8) ∧
    decoded (ctxOf .primary false true false 0x00#8) (word 0b10011111#8 0b000#3 0b1#1 0b1#1 0b0000000001111111#16) =
      some (.pwSgen 0x7F#8 0x9F#8) ∧
    decoded (ctxOf .legacy false true false 0x00#8) (word 0b00000000#8 0b011#3 0b1#1 0b0#1 0b0000000001111110#16) =
      some (.prHv 0x7E#8) := by decide

theorem test_decode_primary :
    decoded (ctxOf .primary false true false 0x00#8) (word 0b00000101#8 0b000#3 0b1#1 0b1#1 0b0000000000000001#16) =
      some (.pw0Per 0x01#8 0x05#8) ∧
    decoded (ctxOf .primary false true false 0x00#8) (word 0b00000000#8 0b000#3 0b1#1 0b0#1 0b0000000000000000#16) =
      some (.pr0B00 0x00#8) ∧
    decoded (ctxOf .primary false true false 0x00#8) (word 0b00000000#8 0b000#3 0b1#1 0b0#1 0b0000000001000001#16) =
      some (.pr0Hv 0x41#8) ∧
    decoded (ctxOf .primary false true false 0x00#8) (word 0b00000000#8 0b000#3 0b1#1 0b0#1 0b0000000011110001#16) =
      some (.pr0Fm 0xF1#8) ∧
    decoded (ctxOf .primary false true false 0x00#8) (word 0b00110000#8 0b000#3 0b1#1 0b1#1 0b0000000011111100#16) =
      some (.pw0Fm 0xFC#8 0x30#8) ∧
    decoded (ctxOf .primary false true false 0x00#8) (word 0b00000000#8 0b000#3 0b1#1 0b0#1 0b0000000011101111#16) =
      some (.pr0Def 0xEF#8) ∧
    decoded (ctxOf .primary false false false 0x00#8) (word 0b00110000#8 0b000#3 0b1#1 0b1#1 0b0000000011110000#16) =
      some (.pw0Def 0xF0#8 0x30#8) := by decide

theorem test_decode_handheld :
    decoded (ctxOf .handheld false true true 0x00#8) (word 0b00000000#8 0b001#3 0b1#1 0b0#1 0b0000000000000000#16) =
      some (.pr1Hio 0x00#8) ∧
    decoded (ctxOf .handheld false true true 0x00#8) (word 0b11111111#8 0b001#3 0b1#1 0b1#1 0b0000000000000110#16) =
      some (.pw1Hio 0x06#8 0xFF#8) ∧
    decoded (ctxOf .handheld false true false 0x00#8) (word 0b00000000#8 0b001#3 0b1#1 0b0#1 0b0000000000111111#16) =
      some (.pr1Per3E 0x3F#8) ∧
    decoded (ctxOf .handheld false true false 0x00#8) (word 0b10101000#8 0b001#3 0b1#1 0b1#1 0b0000000000111110#16) =
      some (.pw1Per3E 0x3E#8 0xA8#8) ∧
    decoded (ctxOf .handheld false true true 0x00#8) (word 0b00000000#8 0b001#3 0b1#1 0b0#1 0b0000000000000111#16) =
      some (.pr1B00 0x07#8) ∧
    decoded (ctxOf .handheld false true false 0x00#8) (word 0b00010010#8 0b001#3 0b1#1 0b1#1 0b0000000000000000#16) =
      some (.pw1B00 0x00#8 0x12#8) ∧
    decoded (ctxOf .handheld false true false 0x00#8) (word 0b00000000#8 0b001#3 0b1#1 0b0#1 0b0000000011000000#16) =
      some (.pr1Def 0xC0#8) ∧
    decoded (ctxOf .handheld false true false 0x00#8) (word 0b00000001#8 0b001#3 0b1#1 0b1#1 0b0000000011110010#16) =
      some (.pw1Def 0xF2#8 0x01#8) := by decide

theorem test_decode_standard :
    decoded (ctxOf .standard true true false 0x00#8) (word 0b11110101#8 0b010#3 0b1#1 0b1#1 0b0000000000111110#16) =
      some (.pw2Per 0x3E#8 0xF5#8) ∧
    decoded (ctxOf .standard true true false 0x00#8) (word 0b11110101#8 0b010#3 0b1#1 0b1#1 0b0000000000000001#16) =
      some (.pw2B00 0x01#8 0xF5#8) ∧
    decoded (ctxOf .standard false true false 0x00#8) (word 0b00000000#8 0b010#3 0b1#1 0b0#1 0b0000000000111111#16) =
      some (.pr2B00 0x3F#8) ∧
    decoded (ctxOf .standard true true false 0x00#8) (word 0b00000000#8 0b010#3 0b1#1 0b0#1 0b0000000011110001#16) =
      some (.pr2Tfm 0xF1#8) ∧
    decoded (ctxOf .standard true true false 0x00#8) (word 0b00010000#8 0b010#3 0b1#1 0b1#1 0b0000000011110000#16) =
      some (.pw2Tfm 0xF0#8 0x10#8) ∧
    decoded (ctxOf .standard true true false 0x00#8) (word 0b00000010#8 0b010#3 0b1#1 0b1#1 0b0000000011110010#16) =
      some (.pw2Actl 0xF2#8 0x02#8) ∧
    decoded (ctxOf .standard false true false 0x00#8) (word 0b00000000#8 0b010#3 0b1#1 0b0#1 0b0000000011110010#16) =
      some (.pr2Xfm 0xF2#8) ∧
    decoded (ctxOf .standard false true false 0x00#8) (word 0b00000010#8 0b010#3 0b1#1 0b1#1 0b0000000011110010#16) =
      some (.pw2Xfm 0xF2#8 0x02#8) ∧
    decoded (ctxOf .standard false true false 0x00#8) (word 0b00000000#8 0b010#3 0b1#1 0b0#1 0b0000000011011100#16) =
      some (.pr2Perg 0xDC#8) ∧
    decoded (ctxOf .standard false true false 0x04#8) (word 0b00000000#8 0b010#3 0b1#1 0b0#1 0b0000000011011100#16) =
      some (.pr2Def 0xDC#8) ∧
    decoded (ctxOf .standard true true false 0x00#8) (word 0b00000010#8 0b010#3 0b1#1 0b1#1 0b0000000011110011#16) =
      some (.pw2Def 0xF3#8 0x02#8) := by decide

theorem test_decode_legacy :
    decoded (ctxOf .legacy false true false 0x00#8) (word 0b00000000#8 0b011#3 0b1#1 0b0#1 0b0000000000111111#16) =
      some (.pr3B00 0x3F#8) ∧
    decoded (ctxOf .legacy false true false 0x00#8) (word 0b00000000#8 0b011#3 0b1#1 0b1#1 0b0000000000111110#16) =
      some (.pw3B00 0x3E#8 0x00#8) ∧
    decoded (ctxOf .legacy false true false 0x00#8) (word 0b00000000#8 0b011#3 0b1#1 0b0#1 0b0000000011110010#16) =
      some (.pr3Fm 0xF2#8) ∧
    decoded (ctxOf .legacy false true false 0x00#8) (word 0b11111110#8 0b011#3 0b1#1 0b1#1 0b0000000011110011#16) =
      some (.pw3Fm 0xF3#8 0xFE#8) ∧
    decoded (ctxOf .legacy false true false 0x00#8) (word 0b00000000#8 0b011#3 0b1#1 0b0#1 0b0000000011011100#16) =
      some (.pr3Def 0xDC#8) ∧
    decoded (ctxOf .legacy false true false 0x00#8) (word 0b00000001#8 0b011#3 0b1#1 0b1#1 0b0000000011110100#16) =
      some (.pw3Def 0xF4#8 0x01#8) ∧
    decoded (ctxOf .legacy false false false 0x04#8) (word 0b00000000#8 0b011#3 0b1#1 0b0#1 0b0000000011011101#16) =
      some (.pr3Per 0xDD#8) ∧
    decoded (ctxOf .legacy false false false 0x04#8) (word 0b00001111#8 0b011#3 0b1#1 0b1#1 0b0000000011000000#16) =
      some (.pw3Per 0xC0#8 0x0F#8) := by decide

theorem test_decode_firstGen :
    decoded (ctxOf .firstGen false true false 0x00#8) (word 0b00000000#8 0b100#3 0b1#1 0b0#1 0b0000000000000000#16) =
      some (.pr4B00 0x00#8) ∧
    decoded (ctxOf .firstGen false true false 0x00#8) (word 0b11111111#8 0b100#3 0b1#1 0b1#1 0b0000000000111111#16) =
      some (.pw4B00 0x3F#8 0xFF#8) ∧
    decoded (ctxOf .firstGen false true false 0x00#8) (word 0b00000000#8 0b100#3 0b1#1 0b0#1 0b0000000001000001#16) =
      some (.pr4B40 0x41#8) ∧
    decoded (ctxOf .firstGen false true false 0x00#8) (word 0b10011111#8 0b100#3 0b1#1 0b1#1 0b0000000001000001#16) =
      some (.pw4Sgen 0x41#8 0x9F#8) ∧
    decoded (ctxOf .firstGen false true false 0x00#8) (word 0b00000000#8 0b100#3 0b1#1 0b0#1 0b0000000010111111#16) =
      some (.pr4Vctrl 0xBF#8) ∧
    decoded (ctxOf .firstGen false true false 0x00#8) (word 0b10000111#8 0b100#3 0b1#1 0b1#1 0b0000000010111111#16) =
      some (.pw4Vctrl 0xBF#8 0x87#8) ∧
    decoded (ctxOf .firstGen false true false 0x00#8) (word 0b00000000#8 0b100#3 0b1#1 0b0#1 0b0000000011011100#16) =
      some (.pr4Per 0xDC#8) ∧
    decoded (ctxOf .firstGen false true false 0x00#8) (word 0b00000000#8 0b100#3 0b1#1 0b1#1 0b0000000011110000#16) =
      some (.pw4Def 0xF0#8 0x00#8) := by decide

/-- A port word's `TW[15:8]` and a memory word's V are ignored (R81, R168, T114). -/
theorem test_decode_ignores :
    decoded (ctxOf .primary false true false 0x00#8) (word 0b00000000#8 0b000#3 0b1#1 0b0#1 0b0001001000110100#16) = some (.pr0B00 0x34#8) ∧
    decoded (ctxOf .primary false true false 0x00#8) (word 0b00000000#8 0b111#3 0b0#1 0b0#1 0b0001001000110100#16) = some (.mrRam 0x1234#16) := by
  decide

def rejection {α : Type} (e : Except Reject α) : Option Reject :=
  match e with
  | .error r => some r
  | .ok _ => none

theorem test_reject_spareBits : rejection (decode (ctxOf .primary false true false 0x00#8) 0x00200000#32) = some .spareBits := by decide

theorem test_reject_noSuchVariant :
    rejection (decode (ctxOf .primary false true false 0x00#8) (word 0#8 0b101#3 0b1#1 0b0#1 0x0000#16)) = some .noSuchVariant := by decide

theorem test_reject_otherVariant :
    rejection (decode (ctxOf .primary false true false 0x00#8) (word 0#8 0b001#3 0b1#1 0b0#1 0x0000#16)) = some .otherVariant := by decide

theorem test_decodeBytes :
    (decodeBytes (ctxOf .primary false true false 0x00#8) [0x00#8, 0x60#8, 0x01#8, 0x33#8, 0xAA#8]).toOption =
      some (.mwBsel 0x6000#16 0x33#8, [0xAA#8]) ∧
    (decodeBytes (ctxOf .primary false true false 0x00#8) [0x00#8, 0x60#8, 0x00#8, 0xAA#8]).toOption =
      some (.mrCunused 0x6000#16, [0xAA#8]) ∧
    rejection (decodeBytes (ctxOf .primary false true false 0x00#8) [0x00#8, 0x60#8, 0x01#8]) = some .truncated := by decide

/-! ### One step of each operation (the vectors named) -/

/-- T2, T3: the mirror. -/
theorem test_mrRam :
    (after { stV0 5 with ram := [(0, 0x11#8), (0x1FFF, 0x22#8)] } (.mr 0x3FFF#16)).map (fun t => (t.ret, t.calls, t.ccyc)) =
      some (some 0x22#8, [], .num 5) := by decide

/-- T7: an unwritten byte is the drawn one, the same each time. -/
theorem test_mrRam_unwritten :
    (after (stV0 5) (.mr 0x1234#16)).map (fun t => (t.ret, t.ram)) =
      some (some (Config.ramDrawn 0 0x1234), []) := rfl

/-- T4: one byte, no other. -/
theorem test_mwRam :
    (after { stV0 5 with ram := [(1, 0x55#8)] } (.mw 0x2000#16 0x33#8)).map (fun t => (t.ram, t.ret)) =
      some ([(0, 0x33#8), (1, 0x55#8)], none) := by decide

/-- T8: local RAM is not on the shared bus. -/
theorem test_mwRam_contended :
    (after { stT85 with ccyc := .num 10, pcyc := 20 } (.mw 0x0000#16 0x01#8)).map (fun t => (t.ccyc, t.pcyc, t.run)) =
      some (.num 10, 20, 1) := by decide

/-- T11: the index is `a & 3`. -/
theorem test_mrSnd :
    (after (stV0 1234) (.mr 0x5FFF#16)).map (fun t => (t.calls, t.ccyc)) =
      some ([.sndRead 1234 3#2], .num 1234) := by decide

/-- T10: the answer is returned. -/
theorem test_mrSnd_answer :
    (after (stV0 1234) (.mr 0x4000#16)).map (fun t => t.ret) =
      some (some (Config.answer (stV0 1234).seen (.sndRead 1234 0#2))) := rfl

/-- T14: no `ARB()`. -/
theorem test_mwSnd :
    (after { stT85 with ccyc := .num 1234, pcyc := 7 } (.mw 0x5001#16 0x2A#8)).map (fun t => (t.calls, t.ccyc, t.pcyc)) =
      some ([.sndWrite 1234 1#2 0x2A#8], .num 1234, 7) := by decide

/-- T13. -/
theorem test_mwSnd_index :
    (after (stV0 1234) (.mw 0x4006#16 0x80#8)).map (fun t => t.calls) =
      some [.sndWrite 1234 2#2 0x80#8] := by decide

/-- T22: stall, owed bit, charge from the entry value, the 16-bit address. -/
theorem test_mrVid :
    (after { stT85 with pcyc := 5000, bank := 0x408000#24 } (.mr 0x7FFF#16)).map (fun t => (t.ccyc, t.pcyc, t.run, t.calls)) =
      some (.num 1545, 5077, 5, [.busRead .video 0x007FFF#24]) := by decide

/-- R316: the device sees the CCYC that `ARB` leaves, not that of entry. -/
theorem test_mrVid_sees_ccyc_after_arb :
    (after (stV0 7) (.mr 0x7F00#16)).map (fun t => t.ret) =
      some (some (Config.answer { stV0 7 with ccyc := .num 52, pcyc := 5070 } (.busRead .video 0x007F00#24))) :=
  rfl

/-- T24: the charge is paid first. -/
theorem test_mrVid_unused :
    (after { banked (stV0 7) 0x000000#24 0xC0 (.delegate .unused) with pcyc := 0 } (.mr 0x7F00#16)).map (fun t => (t.ccyc, t.pcyc, t.ret)) =
      some (.num 52, 70, some 0xFF#8) := by decide

/-- T21. -/
theorem test_mwVid :
    (after { stV0 13 with pcyc := 0 } (.mw 0x7F11#16 0x9F#8)).map (fun t => (t.ccyc, t.pcyc, t.calls, t.ret)) =
      some (.num 58, 77, [.busWrite .video 0x007F11#24 0x9F#8], none) := by decide

/-- T25, by a write. -/
theorem test_mwVid_direct :
    refusalOf (step (submit (banked (stV0 7) 0x000000#24 0xC0 (.direct 1)) (.mw 0x7F00#16 0x01#8))) =
      some .videoEntryDirect := by decide

/-- T28: only `D[0]`, the old bit 15 shifts out. -/
theorem test_mwBsel :
    (after { stV0 5 with bank := 0xFF8000#24 } (.mw 0x60AB#16 0xFE#8)).map (fun t => (t.bank, t.ccyc, t.pcyc)) =
      some (0x7F8000#24, .num 5, 5000) := by decide

/-- T29, with the event of the call (R10). -/
theorem test_mwBsel_one :
    (after { stV0 5 with bank := 0x7F8000#24 } (.mw 0x6000#16 0x03#8)).map (fun t => (t.bank, t.calls)) =
      some (0xBF8000#24, [.bshift 0x7F8000#24 0x03#8]) := by decide

/-- T31: a read of the bank-select page is unused. -/
theorem test_mrCunused :
    (after { stV0 5 with bank := 0x408000#24 } (.mr 0x6000#16)).map (fun t => (t.ret, t.bank, t.calls)) =
      some (some 0xFF#8, 0x408000#24, []) := by decide

/-- T34. -/
theorem test_mwCunused :
    (after { stV0 5 with bank := 0x408000#24 } (.mw 0x6100#16 0x12#8)).map (fun t => (t.ret, t.bank, t.calls)) =
      some (none, 0x408000#24, []) := by decide

/-- T50. -/
theorem test_mrBank_direct :
    (after { banked (stV0 100) 0x408000#24 0x40 (.direct 3) with bufs := [(3 * 65536 + 0x9234, 0x5A#8)], pcyc := 200 } (.mr 0x9234#16)).map (fun t => (t.ret, t.ccyc, t.pcyc)) =
      some (some 0x5A#8, .num 145, 270) := by decide

/-- T56: the owed bit of `ARB()` stays, the halt overwrites CCYC. -/
theorem test_mrBank_lockup :
    (after { banked (stV0 300) 0xA00000#24 0xA0 (.delegate .lockup) with
      pcyc := 700, dma := { endCycle := 400, remainingLength := 2, conflictClass := 1 } } (.mr 0x8000#16)).map (fun t => (t.ret, t.ccyc, t.pcyc, t.run)) =
      some (some 0xFF#8, .never, 777, 4) := by decide

/-- T51. -/
theorem test_mwBank_direct :
    (after { banked (stV0 0) 0xFF8000#24 0xFF (.direct 3) with pcyc := 0 } (.mw 0xFFFF#16 0x77#8)).map (fun t => (t.bufs, t.ccyc, t.pcyc)) =
      some ([(3 * 65536 + 0xFFFF, 0x77#8)], .num 45, 70) := by decide

/-- T52: the 24-bit effective address. -/
theorem test_mwBank_video :
    (after { stV0 1545 with bank := 0xC00000#24, pcyc := 5077 } (.mw 0x8010#16 0x77#8)).map (fun t => (t.calls, t.ccyc, t.pcyc)) =
      some ([.busWrite .video 0xC00010#24 0x77#8], .num 1590, 5154) := by decide

/-- T92: the charge is taken from the counter of entry. -/
theorem test_arb_order :
    (nextOf (exec .arb { stV0 4 with
        pcyc := 100, dma := { endCycle := 5, remainingLength := 1, conflictClass := 0 } })).map
      (fun t => (t.ccyc, t.pcyc, t.run)) = some (.num 50, 170, 5) := by decide

/-- T89, T87: no stall at the end of the transfer, none in class 2. -/
theorem test_arb_no_stall :
    (nextOf (exec .arb { stT85 with dma := { stT85.dma with endCycle := 1000 } })).map
      (fun t => (t.ccyc, t.pcyc, t.run)) = some (.num 1045, 177, 1) ∧
    (nextOf (exec .arb { stT85 with dma := { stT85.dma with conflictClass := 2 } })).map
      (fun t => (t.ccyc, t.pcyc, t.run)) = some (.num 1045, 177, 1) := by decide

/-- T101. -/
theorem test_prVdata :
    (after (stOf .standard false true false false 5) (.pr 0x00BE#16)).map (fun t => (t.calls, t.ccyc)) =
      some ([.vidDataRead], .num 5) := by decide

/-- T102. -/
theorem test_pwVdata :
    (after (stOf .firstGen false true false false 5) (.pw 0x0080#16 0x3C#8)).map (fun t => (t.calls, t.ret)) =
      some ([.vidDataWrite 0x3C#8], none) := by decide

/-- T103. -/
theorem test_prVctrl :
    (after (stOf .handheld false true false false 5) (.pr 0x00BF#16)).map (fun t => t.calls) =
      some [.vidCtrlRead] := by decide

/-- T104. -/
theorem test_pwVctrl :
    (after (stOf .legacy false true false false 5) (.pw 0x0081#16 0x80#8)).map (fun t => t.calls) =
      some [.vidCtrlWrite 0x80#8] := by decide

/-- T106: no stall. -/
theorem test_pwSgen :
    (after (stOf .primary false true false false 700) (.pw 0x007F#16 0x9F#8)).map (fun t => (t.calls, t.ccyc)) =
      some ([.sgenWrite 700 0x9F#8], .num 700) := by decide

/-- T108: the low byte. -/
theorem test_prHv_odd :
    (after (stOf .handheld false true false false 900) (.pr 0x0041#16)).map (fun t => (t.calls, t.ret)) =
      some
        ([.vidHv 900], some ((Config.hvAnswer (stOf .handheld false true false false 900).seen 900).extractLsb' 0 8)) := rfl

/-- T110: the high byte. -/
theorem test_prHv_even :
    (after (stOf .legacy false true false false 900) (.pr 0x007E#16)).map (fun t => t.ret) =
      some (some ((Config.hvAnswer (stOf .legacy false true false false 900).seen 900).extractLsb' 8 8)) := rfl

/-- T121. -/
theorem test_pw0Per :
    (after (stOf .primary false true false false 5) (.pw 0x003F#16 0x07#8)).map (fun t => (t.calls, t.ccyc)) =
      some ([.perWrite 1#1 0x07#8 Config.ofsPrimary], .num 5) := rfl

/-- T122: never the floating byte. -/
theorem test_pr0B00 :
    (after (stOf .primary false true false true 5) (.pr 0x0000#16)).map (fun t => (t.ret, t.calls)) =
      some (some 0xFF#8, []) := by decide

/-- T111: 15 cycles in the past. -/
theorem test_pr0Hv :
    (after (stOf .primary false true false false 900) (.pr 0x0040#16)).map (fun t => (t.calls, t.ccyc)) =
      some ([.vidHv 885], .num 900) := by decide

/-- T112. -/
theorem test_pr0Hv_negative :
    (after (stOf .primary false true false false 10) (.pr 0x0041#16)).map (fun t => (t.calls, t.ret)) =
      some
        ([.vidHv (-5)], some ((Config.hvAnswer (stOf .primary false true false false 10).seen (-5)).extractLsb' 0 8)) := rfl

/-- T123. -/
theorem test_pr0Fm :
    (after (stOf .primary false true false false 200) (.pr 0x00F1#16)).map (fun t => t.calls) =
      some [.fmRead 200 1#2] := by decide

/-- T124: no mute, no SSR. -/
theorem test_pw0Fm :
    (after (stOf .primary false true false false 200) (.pw 0x00FC#16 0x30#8)).map (fun t => (t.calls, t.ssr)) =
      some ([.fmWrite 200 0#2 0x30#8], 0x00#8) := by decide

/-- T126. -/
theorem test_pr0Def :
    (after (stOf .primary false true false false 5) (.pr 0x00EF#16)).map (fun t => (t.ret, t.calls)) =
      some (some 0xFF#8, []) := by decide

/-- T125. -/
theorem test_pw0Def :
    (after (stOf .primary false false false false 5) (.pw 0x00F0#16 0x30#8)).map (fun t => (t.ret, t.calls)) =
      some (none, []) := by decide

/-- T130: the full port number. -/
theorem test_pr1Hio :
    (after (stOf .handheld false true true false 5) (.pr 0x0006#16)).map (fun t => t.calls) =
      some [.hioRead 0x06#8] := by decide

/-- T131. -/
theorem test_pw1Hio :
    (after (stOf .handheld false true true false 5) (.pw 0x0006#16 0xFF#8)).map (fun t => t.calls) =
      some [.hioWrite 0x06#8 0xFF#8] := by decide

/-- T135. -/
theorem test_pr1Per3E :
    (after (stOf .handheld false true false false 5) (.pr 0x003F#16)).map (fun t => t.calls) =
      some [.perRead 1#1] := by decide

/-- T135, the other value of the parameter. -/
theorem test_pr1Per3E_unused :
    (after { stOf .handheld false true false true 5 with
        prm := { Prm.defaults with handheld3E3FRead := .unused } } (.pr 0x003F#16)).map
      (fun t => (t.calls, t.ret)) = some ([], some 0xFF#8) := by decide

/-- T134. -/
theorem test_pw1Per3E :
    (after (stOf .handheld false true false false 5) (.pw 0x003E#16 0xA8#8)).map (fun t => t.calls) =
      some [.perWrite 0#1 0xA8#8 Config.ofsHandheld] := rfl

/-- T132. -/
theorem test_pr1B00 :
    (after (stOf .handheld false true true false 5) (.pr 0x0007#16)).map (fun t => (t.ret, t.calls)) =
      some (some 0xFF#8, []) := by decide

/-- T133, the write. -/
theorem test_pw1B00 :
    (after (stOf .handheld false true false false 5) (.pw 0x0000#16 0x12#8)).map (fun t => (t.ret, t.calls)) =
      some (none, []) := by decide

/-- T138. -/
theorem test_pr1Def :
    (after (stOf .handheld false true false true 5) (.pr 0x00C0#16)).map (fun t => (t.ret, t.calls)) =
      some (some 0xFF#8, []) := by decide

/-- T137. -/
theorem test_pw1Def :
    (after (stOf .handheld false true false false 5) (.pw 0x00F2#16 0x01#8)).map (fun t => (t.calls, t.ssr)) =
      some ([], 0x00#8) := by decide

/-- T142. -/
theorem test_pw2Per :
    (after (stOf .standard true true false false 5) (.pw 0x003E#16 0xF5#8)).map (fun t => t.calls) =
      some [.perWrite 0#1 0xF5#8 Config.ofsStandard] := rfl

/-- R40: SSR after the call is whatever the peripheral controller leaves. -/
theorem test_pw2Per_ssr :
    (after (stOf .standard false true false false 5) (.pw 0x0001#16 0xF5#8)).map (fun t => t.ssr) =
      some
        (Config.ssrAfterPerWrite (stOf .standard false true false false 5).seen (.perWrite 1#1 0xF5#8 Config.ofsStandard)) := rfl

/-- T141. -/
theorem test_pw2B00 :
    (after (stOf .standard true true false false 5) (.pw 0x0001#16 0xF5#8)).map (fun t => (t.calls, t.ssr)) =
      some ([], 0x00#8) := by decide

/-- T143. -/
theorem test_pr2B00 :
    (after (stOf .standard false true false false 5) (.pr 0x003F#16)).map (fun t => (t.ret, t.calls)) =
      some (some 0xFF#8, []) := by decide

/-- T161: the byte before the program position. -/
theorem test_pr2B00_floats :
    (after (stOf .standard false true false true 5) (.pr 0x0000#16)).map (fun t => (t.calls, t.ret)) =
      some
        ([.copPc, .copPeek (Config.copPc (stOf .standard false true false true 5).seen - 1#16)],
         some (Config.answer ((stOf .standard false true false true 5).noteCall .copPc).seen (.copPeek (Config.copPc (stOf .standard false true false true 5).seen - 1#16)))) := rfl

/-- R54, R266: the two questions move no state, the collaborators' own included. -/
theorem test_pr2B00_floats_no_side_effect :
    (after (stOf .standard false true false true 5) (.pr 0x0000#16)).map (fun t => (t.ext, t.ssr, t.ccyc)) =
      some (0, 0x00#8, .num 5) := rfl

/-- T144. -/
theorem test_pr2Tfm :
    (after (stOf .standard true true false false 300) (.pr 0x00F1#16)).map (fun t => t.calls) =
      some [.fmRead 300 1#2] := by decide

/-- T145. -/
theorem test_pw2Tfm :
    (after (stOf .standard true true false false 300) (.pw 0x00F0#16 0x10#8)).map (fun t => (t.calls, t.ssr)) =
      some ([.fmWrite 300 0#2 0x10#8], 0x00#8) := by decide

/-- T146: mask, FM write and SSR, in this order. -/
theorem test_pw2Actl :
    (after (stOf .standard true true false false 300) (.pw 0x00F2#16 0x02#8)).map (fun t => (t.calls, t.ssr)) =
      some
        ([.sgenConfig 300 7 0x00#8, .fmWrite 300 2#2 0x02#8], 0x02#8) := by decide

/-- T150: `(0xFF + 1) mod 256`. -/
theorem test_pw2Actl_wraps :
    (after (stOf .standard true true false false 300) (.pw 0x00F2#16 0xFF#8)).map (fun t => (t.calls, t.ssr)) =
      some
        ([.sgenConfig 300 7 0xFF#8, .fmWrite 300 2#2 0xFF#8], 0xFF#8) := by decide

/-- T154. -/
theorem test_pr2Xfm :
    (after (stOf .standard false true false false 10) (.pr 0x00F2#16)).map (fun t => t.calls) =
      some [.fmRead 10 2#2] := by decide

/-- T155: SSR is kept. -/
theorem test_pw2Xfm :
    (after { stOf .standard false true false false 10 with ssr := 0x55#8 } (.pw 0x00F2#16 0x02#8)).map (fun t => (t.calls, t.ssr)) =
      some ([.fmWrite 10 2#2 0x02#8], 0x55#8) := by decide

/-- T157: the other bits of SSR do not matter. -/
theorem test_pr2Perg :
    (after { stOf .standard false true false false 10 with ssr := 0xFB#8 } (.pr 0x00DD#16)).map (fun t => t.calls) =
      some [.perRead 1#1] := by decide

/-- T158: SSR forbids. -/
theorem test_pr2Def :
    (after { stOf .standard false true false false 10 with ssr := 0x04#8 } (.pr 0x00DC#16)).map (fun t => (t.calls, t.ret)) =
      some ([], some 0xFF#8) := by decide

/-- T160. -/
theorem test_pr2Def_noFm :
    (after (stOf .standard false false false false 10) (.pr 0x00DC#16)).map (fun t => (t.calls, t.ret)) =
      some ([], some 0xFF#8) := by decide

/-- T153: the FM flag gates the whole bucket. -/
theorem test_pw2Def :
    (after (stOf .standard true false false false 10) (.pw 0x00F2#16 0x02#8)).map (fun t => (t.calls, t.ssr)) =
      some ([], 0x00#8) := by decide

/-- T170. -/
theorem test_pr3B00 :
    (after (stOf .legacy false true false false 5) (.pr 0x003F#16)).map (fun t => (t.ret, t.calls)) =
      some (some 0xFF#8, []) := by decide

/-- T181. -/
theorem test_pr3B00_floats :
    (after (stOf .legacy false true false true 5) (.pr 0x0000#16)).map (fun t => t.calls) =
      some [.copPc, .copPeek (Config.copPc (stOf .legacy false true false true 5).seen - 1#16)] := rfl

/-- T171. -/
theorem test_pw3B00 :
    (after (stOf .legacy false true false false 5) (.pw 0x003E#16 0x00#8)).map (fun t => t.calls) =
      some [] := by decide

/-- T172. -/
theorem test_pr3Fm :
    (after (stOf .legacy false true false false 50) (.pr 0x00F2#16)).map (fun t => t.calls) =
      some [.fmRead 50 2#2] := by decide

/-- T173: the second gate bit is clear. -/
theorem test_pw3Fm :
    (after (stOf .legacy false true false false 50) (.pw 0x00F0#16 0x21#8)).map (fun t => t.calls) =
      some [.fmWrite 50 0#2 0x21#8] := by decide

/-- T175: the FM write first, then the mute. -/
theorem test_pw3Fm_mute :
    (after (stOf .legacy false true false false 50) (.pw 0x00F3#16 0xFE#8)).map (fun t => (t.calls, t.ssr)) =
      some
        ([.fmWrite 50 3#2 0xFE#8, .sgenConfig 50 7 0xFF#8], 0x00#8) := by decide

/-- T176. -/
theorem test_pr3Def :
    (after (stOf .legacy false true false false 50) (.pr 0x00DC#16)).map (fun t => (t.calls, t.ret)) =
      some ([], some 0xFF#8) := by decide

/-- T177. -/
theorem test_pw3Def :
    (after (stOf .legacy false true false false 50) (.pw 0x00F4#16 0x01#8)).map (fun t => t.calls) =
      some [] := by decide

/-- T180: no gating. -/
theorem test_pr3Per :
    (after { stOf .legacy false false false false 10 with ssr := 0x04#8 } (.pr 0x00DC#16)).map (fun t => t.calls) =
      some [.perRead 0#1] := by decide

/-- T179. -/
theorem test_pw3Per :
    (after (stOf .legacy false false false false 50) (.pw 0x00C0#16 0x0F#8)).map (fun t => t.calls) =
      some [.perWrite 0#1 0x0F#8 Config.ofsLegacy] := rfl

/-- T190. -/
theorem test_pr4B00 :
    (after (stOf .firstGen false true false true 5) (.pr 0x0000#16)).map (fun t => (t.ret, t.calls)) =
      some (some 0xFF#8, []) := by decide

/-- T191. -/
theorem test_pw4B00 :
    (after (stOf .firstGen false true false false 5) (.pw 0x003F#16 0xFF#8)).map (fun t => t.calls) =
      some [] := by decide

/-- T192: no `VID.hv` call. -/
theorem test_pr4B40 :
    (after (stOf .firstGen false true false false 5) (.pr 0x0041#16)).map (fun t => (t.ret, t.calls)) =
      some (some 0xFF#8, []) := by decide

/-- T193. -/
theorem test_pw4Sgen :
    (after { stOf .firstGen false true false false 2000 with pcyc := 9 } (.pw 0x0041#16 0x9F#8)).map (fun t => (t.calls, t.ccyc, t.pcyc, t.run)) =
      some
        ([.sgenWrite 2000 0x9F#8], .num 2480, 9, 1) := by decide

/-- T195: the older port. -/
theorem test_pr4Vctrl :
    (after (stOf .firstGen false true false false 5) (.pr 0x00BF#16)).map (fun t => t.calls) =
      some [.vidCtrlReadOld] := by decide

/-- T196. -/
theorem test_pw4Vctrl :
    (after (stOf .firstGen false true false false 5) (.pw 0x00BF#16 0x87#8)).map (fun t => t.calls) =
      some [.vidCtrlWriteOld 0x87#8] := by decide

/-- T198. -/
theorem test_pr4Per :
    (after (stOf .firstGen false true false false 5) (.pr 0x00C1#16)).map (fun t => t.calls) =
      some [.perRead 1#1] := by decide

/-- T199. -/
theorem test_pw4Def :
    (after (stOf .firstGen false true false false 5) (.pw 0x00F0#16 0x00#8)).map (fun t => t.calls) =
      some [] := by decide

/-- T210, T211. -/
theorem test_umr_umw :
    (nextOf (exec (.umr 0x6000#24) (stV0 5))).map (fun t => (t.ret, t.ccyc)) = some (some 0xFF#8, .num 5) ∧
    nextOf (exec (.umw 0x6000#24 0x12#8) (stV0 5)) = some (stV0 5) := ⟨by decide, rfl⟩

/-- T212, T213: a lockup, and a second one. -/
theorem test_lkr :
    (nextOf (exec (.lkr 0xA00000#24) { stV0 445 with run := 5 })).map (fun t => (t.ret, t.ccyc, t.run)) =
      some (some 0xFF#8, .never, 4) ∧
    (nextOf (exec (.lkr 0xA00000#24) stHalted)).map (fun t => (t.ret, t.ccyc, t.run)) =
      some (some 0xFF#8, .never, 4) := by decide

/-- T214, T216: a lockup, and one overridden. -/
theorem test_lkw :
    (nextOf (exec (.lkw 0xA00000#24 0x01#8) (stV0 445))).map (fun t => (t.ret, t.ccyc, t.run)) =
      some (none, .never, 0) ∧
    (nextOf (exec (.lkw 0xA00000#24 0x01#8) { stV0 445 with
        cfg := { Cfg.launch with forceNoLockup := true }, run := 5 })).map
      (fun t => (t.ret, t.ccyc, t.run)) = some (none, .num 445, 5) := by decide

/-- T217, T219. -/
theorem test_upr :
    (nextOf (exec (.upr 0x00#8) (stOf .firstGen false true false true 5))).map (fun t => (t.ret, t.calls)) =
      some (some 0xFF#8, []) ∧
    (nextOf (exec (.upr 0x00#8) (stOf .legacy false true false true 5))).map (fun t => t.calls.length) =
      some 2 := by decide

/-- T220. -/
theorem test_upw : nextOf (exec (.upw 0x00#8 0x12#8) (stV0 5)) = some (stV0 5) := rfl

/-- T59: a halted block accepts no transaction. -/
theorem test_halted :
    refusalOf (step (submit stHalted (.mr 0x0000#16))) = some .halted ∧
    refusalOf (step (submit stHalted (.pw 0x0041#16 0x9F#8))) = some .halted := by decide

/-- T223, T224: the frame boundary, running and halted. -/
theorem test_frame :
    (nextOf (step { stV0 59000 with
        pcyc := 59500, run := 5, bank := 0x408000#24, inbox := [.move (.frame 0 500 true)] })).map
      (fun t => (t.ccyc, t.pcyc, t.run, t.bank)) = some (.num 0, 500, 1, 0x408000#24) ∧
    (nextOf (step { stHalted with inbox := [.move (.frame 0 500 true)] })).map (·.ccyc) = some .never := by
  decide

/-- T221: external reset ends a halt; RAM kept and the buffers redrawn here. -/
theorem test_external_reset :
    (nextOf (step { stHalted with
        ram := [(0, 0x11#8)]
        bufs := [(7, 0x22#8)]
        inbox := [.move (.externalReset (resetChoice none none (some 9)))] })).map
      (fun t => (t.ccyc, t.ram, t.bufs, t.bufDraw)) = some (.num 0, [(0, 0x11#8)], [], 9) := by decide

/-- H6 and H10: a Direct entry at the video device's index is no move of the host; elsewhere it is one. -/
theorem test_remap :
    refusalOf (step { stV0 5 with inbox := [.move (.remap 0xC0#8 (.direct 1))] }) = some .hostBreaksDuty ∧
    (nextOf (step { stV0 5 with inbox := [.move (.remap 0xC1#8 (.direct 1))] })).map
      (fun t => (btEntry t.bt 0xC1#8, btEntry t.bt 0xC0#8)) = some (.direct 1, .delegate .video) := by
  decide

/-- H10 at session start: a table with a Direct entry for the video device starts no session. -/
theorem test_sessionStart_direct :
    sessionStart Cfg.launch Prm.defaults (BankTable.launch.set 0xC0 (.direct 1)) 0
      (resetChoice none none none) = none :=
  if_neg fun h => absurd h.2 (by decide)

/-- T222: RECONFIG, then the write is the FM chip's. -/
theorem test_reconfig :
    ((nextOf (step { stOf .primary false false false false 8 with inbox := [.move (.reconfig true 9)] })).bind
      (fun s => after s (.pw 0x00F0#16 0x30#8))).map (fun t => (t.calls, t.cfg.amplifierLevel)) =
      some ([.fmWrite 8 0#2 0x30#8], 9) := by decide

/-- H4: the other bits of RUN are replaced, the owed bit and the width kept. -/
theorem test_setRun :
    (nextOf (step { stV0 5 with run := 5, inbox := [.move (.setRun 0x1F2)] })).map (·.run) = some 0xF6 := by
  decide

/-- T42, T45, T46, T47: the address combination. -/
theorem test_effective_address :
    effectiveAddress 0x408000#24 0x8000#16 = 0x408000#24 ∧
    effectiveAddress 0x400000#24 0xFFFF#16 = 0x407FFF#24 ∧
    effectiveAddress 0xFF8000#24 0xFFFF#16 = 0xFFFFFF#24 ∧
    btIndex (effectiveAddress 0xC00000#24 0x8010#16) = 0xC0#8 := by decide

/-- The first instruction after reset, from a table word. -/
theorem test_fetch_word :
    decodeTableWord 24 0x0A00C0 = some (.pr2Xfm 0xC0#8) ∧
    (nextOf (step (State.reset.withFetchWord 24 0x0A00C0))).map (·.calls) = some [.fmRead 0 0#2] := by decide

/-! ### Witnesses: for every statement with hypotheses, states and operands that meet them, each clause at
a boundary of its range -/

theorem admissible_defaults : Prm.defaults.Admissible :=
  ⟨by decide, by decide, by decide, by decide, by decide, ofsHandheld_ne_ofsPrimary, by decide, rfl,
    by decide⟩

theorem witness_DecodeReadsBackEveryEncoding :
    Ctx.launch.prm.Admissible ∧ WellFormed Ctx.launch (.mwBsel 0x60FF#16 0xFE#8) = true ∧
    WellFormed Ctx.launch (.pr0Fm 0xF0#8) = true := ⟨admissible_defaults, by decide, by decide⟩

/-- A memory read, a memory write, a port read and a port write, with the bits the word ignores set. -/
theorem witness_EncodingKeepsEveryFieldOfTheWord :
    decode Ctx.launch 0xFF1C3FFF#32 = .ok (.mrRam 0x3FFF#16) ∧
    decode Ctx.launch 0xFF1D3FFF#32 = .ok (.mwRam 0x3FFF#16 0xFF#8) ∧
    decode Ctx.launch 0xFF02FF00#32 = .ok (.pr0B00 0x00#8) ∧
    decode Ctx.launch 0xFF03FFFF#32 = .ok (.pw0Fm 0xFF#8 0xFF#8) := by
  refine ⟨?_, ?_, ?_, ?_⟩ <;> rfl

theorem witness_DecodedOperationIsWellFormed :
    Ctx.launch.prm.Admissible ∧ decode Ctx.launch 0x017F11#32 = .ok (.mwVid 0x7F11#16 0x00#8) :=
  ⟨admissible_defaults, rfl⟩

theorem witness_DecodeRefusesOnlyForeignWords :
    fieldSpare (word 0#8 0b101#3 0b1#1 0b0#1 0x0000#16) = 0#3 ∧
    fieldIO (word 0#8 0b101#3 0b1#1 0b0#1 0x0000#16) = true ∧
    5 ≤ (fieldV (word 0#8 0b101#3 0b1#1 0b0#1 0x0000#16)).toNat := by decide

theorem witness_ExactlyOneTableRowIsSelected :
    (ctxOf .standard false true false 0x04#8).prm.Admissible ∧
    decode (ctxOf .standard false true false 0x04#8) 0x000A00DC#32 = .ok (.pr2Def 0xDC#8) :=
  ⟨admissible_defaults, rfl⟩

/-- One address at each end of every clause. -/
theorem witness_MemoryDecodeMap :
    Prm.defaults.vselByte ≠ Prm.defaults.bselByte ∧
    ((0x0000#16).toNat < 0x4000 ∧ (0x3FFF#16).toNat < 0x4000) ∧
    (0x4000 ≤ (0x4000#16).toNat ∧ (0x5FFF#16).toNat < 0x6000) ∧
    ((0x7F00#16).extractLsb' 8 8 = Prm.defaults.vselByte ∧ (0x7FFF#16).toNat < 0x8000) ∧
    ((0x6000#16).extractLsb' 8 8 = Prm.defaults.bselByte ∧ 0x6000 ≤ (0x6000#16).toNat) ∧
    ((0x6100#16).extractLsb' 8 8 ≠ Prm.defaults.vselByte ∧
      (0x6100#16).extractLsb' 8 8 ≠ Prm.defaults.bselByte) ∧
    (0x8000 ≤ (0x8000#16).toNat ∧ 0x8000 ≤ (0xFFFF#16).toNat) := by decide

theorem witness_VariantIsolation :
    decode (ctxOf .firstGen false true false 0x00#8) 0x00120041#32 = .ok (.pr4B40 0x41#8) ∧
    ownVariant (.pr4B40 0x41#8) = some .firstGen ∧
    decode (ctxOf .legacy false true false 0x00#8) 0x000E0040#32 = .ok (.prHv 0x40#8) ∧
    decode (ctxOf .legacy false true false 0x00#8) 0x000E0081#32 = .ok (.prVctrl 0x81#8) ∧
    decode (ctxOf .legacy false true false 0x00#8) 0x000F0081#32 = .ok (.pwVctrl 0x81#8 0x00#8) ∧
    decode (ctxOf .legacy false true false 0x00#8) 0x000F0040#32 = .ok (.pwSgen 0x40#8 0x00#8) := by
  refine ⟨?_, ?_, ?_, ?_, ?_, ?_⟩ <;> rfl

/-- A state with one transaction to do: `MR 0x8000`. -/
def stTxn : State := submit (stV0 300) (.mr 0x8000#16)

theorem witness_StepRunsTheDecodedOperation :
    stTxn.inbox = .txn 0x00008000#32 :: [] ∧ decode stTxn.ctx 0x00008000#32 = .ok (.mrBank 0x8000#16) := by
  refine ⟨?_, ?_⟩ <;> rfl

/-- A BankTable that breaks H10. -/
def tableDirect : BankTable := BankTable.launch.set 0xC0 (.direct 1)

theorem witness_StepWithoutTransaction :
    (stV0 0).inbox = [] ∧
    ({ stV0 0 with inbox := [.move (.setSsr 1#8)] } : State).inbox = .move (.setSsr 1#8) :: [] ∧
    (∀ i buf, HostMove.setSsr 1#8 ≠ .remap i (.direct buf)) ∧ (∀ r, HostMove.setSsr 1#8 ≠ .externalReset r) ∧
    ({ stV0 0 with inbox := [.move (.remap 0xC0#8 (.direct 1))] } : State).inbox =
      .move (.remap (stV0 0).prm.vidBtIndex (.direct 1)) :: [] ∧
    (resetChoice (some tableDirect) none none).bt = some tableDirect ∧
    btEntry tableDirect (stV0 0).prm.vidBtIndex = .direct 1 :=
  ⟨rfl, rfl, nofun, nofun, rfl, rfl, by decide⟩

theorem witness_NoTransactionOfARunningBlockIsRefused :
    RunningAt stTxn 300 ∧ btEntry stTxn.bt stTxn.prm.vidBtIndex = .delegate .video ∧
    stTxn.inbox = .txn (wordOf stTxn.cfg.variant (.mr 0x8000#16)) :: [] := by
  refine ⟨?_, ?_, ?_⟩ <;> rfl

theorem witness_HaltedBlockAcceptsNoTransaction :
    Halted (submit stHalted (.pr 0x0041#16)) ∧
    (submit stHalted (.pr 0x0041#16)).inbox =
      .txn (wordOf (submit stHalted (.pr 0x0041#16)).cfg.variant (.pr 0x0041#16)) :: [] := by
  refine ⟨?_, ?_⟩ <;> rfl

theorem witness_VideoWindowRefusesADirectEntry :
    RunningAt (banked (stV0 7) 0x000000#24 0xC0 (.direct 1)) 7 ∧
    btEntry (banked (stV0 7) 0x000000#24 0xC0 (.direct 1)).bt 0xC0#8 = .direct 1 := by decide

theorem witness_RamReadReturnsItsByte :
    RunningAt (stV0 0) 0 ∧ fieldSpare 0x00003FFF#32 = 0#3 ∧
    0x00003FFF#32 &&& 0x03C000#32 = 0x000000#32 := by decide
theorem witness_RamWriteStoresOneByte :
    RunningAt (stV0 0) 0 ∧ (0x0001#13) ≠ (0x2000#16).extractLsb' 0 13 ∧
    fieldSpare 0x33013FFF#32 = 0#3 ∧ 0x33013FFF#32 &&& 0x03C000#32 = 0x010000#32 := by decide

/-- The write, and the read in the state it leaves. -/
theorem witness_RamMirroring :
    RunningAt (stV0 0) 0 ∧ (0x0123#16).toNat < 0x4000 ∧ (0x2123#16).toNat < 0x4000 ∧
    0x0123#16 &&& 0x1FFF#16 = 0x2123#16 &&& 0x1FFF#16 ∧
    0x3FFF#16 &&& 0x1FFF#16 = 0x1FFF#16 &&& 0x1FFF#16 ∧
    (submit (submit (stV0 0) (.mr 0x2123#16)) (.mw 0x0123#16 0xAB#8)).inbox =
      .txn (wordOf .primary (.mw 0x0123#16 0xAB#8)) :: .txn (wordOf .primary (.mr 0x2123#16)) :: [] ∧
    (nextOf (step (submit (submit (stV0 0) (.mr 0x2123#16)) (.mw 0x0123#16 0xAB#8)))).map
      (fun u => (u.ccyc, u.inbox)) = some (.num 0, [.txn (wordOf .primary (.mr 0x2123#16))]) := by
  decide

theorem witness_SoundChipForward :
    RunningAt (stV0 1234) 1234 ∧ fieldSpare 0x00005FFF#32 = 0#3 ∧
    0x00005FFF#32 &&& 0x03E000#32 = 0x004000#32 ∧ fieldSpare 0x80014000#32 = 0#3 ∧
    0x80014000#32 &&& 0x03E000#32 = 0x014000#32 := by decide

/-- Every kind of delegate at the video device's entry. -/
theorem witness_VideoWindowRead :
    RunningAt (stV0 100) 100 ∧ btEntry (stV0 100).bt 0xC0#8 = .delegate .video ∧
    btEntry (banked (stV0 100) 0#24 0xC0 (.delegate (.ext 3))).bt 0xC0#8 = .delegate (.ext 3) ∧
    btEntry (banked (stV0 100) 0#24 0xC0 (.delegate .unused)).bt 0xC0#8 = .delegate .unused ∧
    btEntry (banked (stV0 100) 0#24 0xC0 (.delegate .lockup)).bt 0xC0#8 = .delegate .lockup := by decide
theorem witness_VideoWindowWrite :
    RunningAt (stV0 100) 100 ∧ btEntry (stV0 100).bt 0xC0#8 = .delegate .video ∧
    btEntry (banked (stV0 100) 0#24 0xC0 (.delegate (.ext 3))).bt 0xC0#8 = .delegate (.ext 3) ∧
    btEntry (banked (stV0 100) 0#24 0xC0 (.delegate .unused)).bt 0xC0#8 = .delegate .unused ∧
    btEntry (banked (stV0 100) 0#24 0xC0 (.delegate .lockup)).bt 0xC0#8 = .delegate .lockup := by decide

theorem witness_BankSelectWrite :
    RunningAt (stV0 5) 5 ∧ (stV0 5).prm.bshift = .serial ∧
    ({ stV0 5 with prm := { Prm.defaults with bshift := .external } } : State).prm.bshift = .external := by
  decide

theorem witness_UnusedRegionC :
    RunningAt (stV0 5) 5 ∧ fieldSpare 0x00007EFF#32 = 0#3 ∧
    0x00007EFF#32 &&& 0x03E000#32 = 0x006000#32 ∧
    (0x00007EFF#32).extractLsb' 8 8 ≠ Prm.defaults.vselByte ∧ fieldSpare 0x12016100#32 = 0#3 ∧
    0x12016100#32 &&& 0x03E000#32 = 0x016000#32 ∧
    (0x12016100#32).extractLsb' 8 8 ≠ Prm.defaults.vselByte ∧
    (0x12016100#32).extractLsb' 8 8 ≠ Prm.defaults.bselByte := by decide

/-- Each kind of entry, reached at the last index of the BankTable. -/
theorem witness_BankedRead :
    RunningAt (banked (stV0 0) 0xFF8000#24 0xFF (.direct 2)) 0 ∧
    0xFFFFFF#24 = (banked (stV0 0) 0xFF8000#24 0xFF (.direct 2)).bank |||
      (0#8 ++ (0xFFFF#16 &&& 0x7FFF#16)) ∧
    btEntry (banked (stV0 0) 0xFF8000#24 0xFF (.direct 2)).bt ((0xFFFFFF#24).extractLsb' 16 8) =
      .direct 2 ∧
    btEntry (banked (stV0 0) 0xFF8000#24 0xFF (.delegate .video)).bt ((0xFFFFFF#24).extractLsb' 16 8) =
      .delegate .video ∧
    btEntry (banked (stV0 0) 0xFF8000#24 0xFF (.delegate (.ext 0))).bt ((0xFFFFFF#24).extractLsb' 16 8) =
      .delegate (.ext 0) ∧
    btEntry (banked (stV0 0) 0xFF8000#24 0xFF (.delegate .unused)).bt ((0xFFFFFF#24).extractLsb' 16 8) =
      .delegate .unused ∧
    btEntry (banked (stV0 0) 0xFF8000#24 0xFF (.delegate .lockup)).bt ((0xFFFFFF#24).extractLsb' 16 8) =
      .delegate .lockup := by decide
theorem witness_BankedWrite :
    RunningAt (banked (stV0 0) 0x000000#24 0x00 (.direct 2)) 0 ∧
    0x000000#24 = (banked (stV0 0) 0x000000#24 0x00 (.direct 2)).bank |||
      (0#8 ++ (0x8000#16 &&& 0x7FFF#16)) ∧
    btEntry (banked (stV0 0) 0x000000#24 0x00 (.direct 2)).bt ((0x000000#24).extractLsb' 16 8) =
      .direct 2 ∧
    btEntry (banked (stV0 0) 0x000000#24 0x00 (.delegate .video)).bt ((0x000000#24).extractLsb' 16 8) =
      .delegate .video ∧
    btEntry (banked (stV0 0) 0x000000#24 0x00 (.delegate (.ext 0))).bt ((0x000000#24).extractLsb' 16 8) =
      .delegate (.ext 0) ∧
    btEntry (banked (stV0 0) 0x000000#24 0x00 (.delegate .unused)).bt ((0x000000#24).extractLsb' 16 8) =
      .delegate .unused ∧
    btEntry (banked (stV0 0) 0x000000#24 0x00 (.delegate .lockup)).bt ((0x000000#24).extractLsb' 16 8) =
      .delegate .lockup := by decide

theorem witness_BankMath : (0xFF8000#24).extractLsb' 0 15 = 0#15 := by decide

/-- Running with a stall, at the end of the transfer, and halted. -/
theorem witness_ArbitrationEndState :
    RunningAt stT85 1000 ∧ (stT85.dma.conflictClass < 2 ∧ 1000 < stT85.dma.endCycle) ∧
    RunningAt { stT85 with ccyc := .num 1500 } 1500 ∧ ¬ 1500 < stT85.dma.endCycle ∧
    Halted stHalted := by decide
theorem witness_ArbitrationCharges :
    RunningAt stT85 1000 ∧ stT85.dma.conflictClass < 2 ∧ 1000 < stT85.dma.endCycle ∧
    RunningAt (stV0 4) 4 ∧ 4 % 7 ≤ 4 ∧ RunningAt (stV0 5) 5 ∧ 5 ≤ 5 % 7 ∧
    ¬ ((stV0 5).dma.conflictClass < 2 ∧ 5 < (stV0 5).dma.endCycle) := by decide

theorem witness_VideoDataPort :
    fieldSpare 0x000A00BE#32 = 0#3 ∧ fieldV 0x000A00BE#32 = variantCode .standard ∧
    0x000A00BE#32 &&& 0x0300C1#32 = 0x020080#32 ∧ fieldSpare 0x3C130080#32 = 0#3 ∧
    fieldV 0x3C130080#32 = variantCode .firstGen ∧ 0x3C130080#32 &&& 0x0300C1#32 = 0x030080#32 ∧
    RunningAt (stV0 0) 0 := by decide
theorem witness_VideoControlPort :
    fieldSpare 0x000600BF#32 = 0#3 ∧ fieldV 0x000600BF#32 = variantCode .handheld ∧
    (fieldV 0x000600BF#32).toNat ≤ 3 ∧ 0x000600BF#32 &&& 0x0300C1#32 = 0x020081#32 ∧
    fieldSpare 0x800F0081#32 = 0#3 ∧ fieldV 0x800F0081#32 = variantCode .legacy ∧
    (fieldV 0x800F0081#32).toNat ≤ 3 ∧ 0x800F0081#32 &&& 0x0300C1#32 = 0x030081#32 ∧
    RunningAt (stV0 0) 0 := by decide
theorem witness_FirstGenVideoControlPort :
    0x81#8 &&& 0xC1#8 = 0x81#8 ∧ 0xBF#8 &&& 0xC1#8 = 0x81#8 ∧
    (stOf .firstGen false true false false 0).cfg.variant = .firstGen ∧
    RunningAt (stOf .firstGen false true false false 0) 0 := by decide
theorem witness_SoundGeneratorWrite :
    0x40#8 &&& 0xC0#8 = 0x40#8 ∧ 0x7F#8 &&& 0xC0#8 = 0x40#8 ∧ (stV0 700).cfg.variant ≠ .firstGen ∧
    RunningAt (stV0 700) 700 := by decide
theorem witness_FirstGenSoundWriteStalls480 :
    0x7E#8 &&& 0xC0#8 = 0x40#8 ∧ (stOf .firstGen false true false false 2000).cfg.variant = .firstGen ∧
    RunningAt (stOf .firstGen false true false false 2000) 2000 := by decide
theorem witness_HvCounterRead :
    0x7F#8 &&& 0xC0#8 = 0x40#8 ∧ (stV0 14).cfg.variant = .primary ∧ RunningAt (stV0 14) 14 ∧
    (stOf .legacy false true false false 900).cfg.variant ≠ .primary ∧
    (stOf .legacy false true false false 900).cfg.variant ≠ .firstGen := by decide
theorem witness_PeripheralControllerWrites : RunningAt (stV0 5) 5 := by decide
theorem witness_PeripheralControllerReads : RunningAt (stV0 5) 5 := by decide

/-- HandheldMode with the other value of `HANDHELD_3E3F_READ`. -/
def stUnusedPair : State :=
  { stOf .handheld false true true false 5 with prm := { Prm.defaults with handheld3E3FRead := .unused } }

theorem witness_HandheldPairRead :
    stUnusedPair.cfg.variant = .handheld ∧ RunningAt stUnusedPair 5 ∧
    stUnusedPair.prm.handheld3E3FRead = .unused ∧
    (stOf .handheld false true false false 5).cfg.variant = .handheld ∧
    RunningAt (stOf .handheld false true false false 5) 5 ∧
    (stOf .handheld false true false false 5).prm.handheld3E3FRead = .peripheral := by decide
theorem witness_HandheldIoChip :
    fieldSpare 0x00060006#32 = 0#3 ∧ 0x00060006#32 &&& 0x1F00C0#32 = 0x060000#32 ∧
    ((0x00060006#32).extractLsb' 0 8).toNat < 0x07 ∧ fieldSpare 0xFF070000#32 = 0#3 ∧
    0xFF070000#32 &&& 0x1F00C0#32 = 0x070000#32 ∧ ((0xFF070000#32).extractLsb' 0 8).toNat < 0x07 ∧
    (stOf .handheld false true true false 5).cfg.variant = .handheld ∧
    RunningAt (stOf .handheld false true true false 5) 5 := by decide
theorem witness_FmChipReads : RunningAt (stV0 200) 200 := by decide
theorem witness_FmChipPlainWrites : RunningAt (stV0 200) 200 := by decide
theorem witness_AudioControlWrite :
    (stOf .standard true true false false 300).prm.Admissible ∧
    (stOf .standard true true false false 300).cfg.variant = .standard ∧
    (stOf .standard true true false false 300).cfg.fmEnabled = true ∧
    (stOf .standard true true false false 300).cfg.regionIsT = true ∧
    0xF2#8 = (stOf .standard true true false false 300).prm.audioctlPort ∧
    RunningAt (stOf .standard true true false false 300) 300 :=
  ⟨admissible_defaults, rfl, rfl, rfl, rfl, rfl⟩
theorem witness_LegacyFmWrite :
    (stOf .legacy false true false false 50).cfg.variant = .legacy ∧
    (stOf .legacy false true false false 50).cfg.fmEnabled = true ∧ 0xF0#8 &&& 0xC0#8 = 0xC0#8 ∧
    (0xF0#8).getLsbD Prm.defaults.legFmGateBit = false ∧
    (0xF0#8).getLsbD Prm.defaults.legMuteBit = false ∧
    (0xF3#8).getLsbD Prm.defaults.legFmGateBit = false ∧
    (0xF3#8).getLsbD Prm.defaults.legMuteBit = true ∧
    RunningAt (stOf .legacy false true false false 50) 50 := by decide

/-- Each branch of the decision list at one of its ports. -/
theorem witness_StandardDefaultBucket :
    (stOf .standard true true false false 0).prm.Admissible ∧
    (stOf .standard true true false false 0).cfg.variant = .standard ∧
    (stOf .standard true false false false 0).cfg.fmEnabled = false ∧
    (stOf .standard true true false false 0).cfg.regionIsT = true ∧
    (stOf .standard false true false false 0).cfg.regionIsT = false ∧
    0xC0#8 &&& 0xC0#8 = 0xC0#8 ∧ 0xFF#8 &&& 0xC0#8 = 0xC0#8 ∧
    0xF2#8 = Prm.defaults.audioctlPort ∧ 0xF1#8 ∈ Prm.defaults.tFmPorts ∧
    0xF3#8 ≠ Prm.defaults.audioctlPort ∧ 0xF3#8 ∉ Prm.defaults.tFmPorts ∧
    (0xC0#8).getLsbD Prm.defaults.stdFmGateBit = false ∧
    (0xFF#8).getLsbD Prm.defaults.stdFmGateBit = true ∧
    (0xFB#8).getLsbD Prm.defaults.ssrGateBit = Prm.defaults.ssrGateAllow ∧
    (0x04#8).getLsbD Prm.defaults.ssrGateBit ≠ Prm.defaults.ssrGateAllow :=
  ⟨admissible_defaults, by decide⟩
theorem witness_UnusedPortWrites : RunningAt (stV0 5) 5 := by decide
theorem witness_UnusedPortReadsReturnFF :
    RunningAt (stV0 5) 5 ∧ (stV0 5).cfg.variant ≠ .standard ∧ (stV0 5).cfg.variant ≠ .legacy := by decide
theorem witness_UnusedPortReadsMayFloat :
    RunningAt (stOf .standard false true false true 5) 5 ∧
    (stOf .standard false true false true 5).cfg.variant = .standard ∧
    (stOf .standard false true false true 5).cfg.openBusFamily = true ∧
    ¬ (((stOf .legacy false true false false 5).cfg.variant = .standard ∨
        (stOf .legacy false true false false 5).cfg.variant = .legacy) ∧
      (stOf .legacy false true false false 5).cfg.openBusFamily = true) := by decide

theorem witness_LockupHandlers :
    (stV0 445).cfg.forceNoLockup = false ∧
    ({ stV0 445 with cfg := { Cfg.launch with forceNoLockup := true } } : State).cfg.forceNoLockup =
      true := by decide
theorem witness_LockupIdempotence : (stV0 445).cfg.forceNoLockup = false := by decide

theorem reset_inv : Inv State.reset :=
  ⟨admissible_defaults, by decide, by decide, by decide, by decide, by decide, by decide⟩

/-- A host move and a transaction of a state that meets the invariant. -/
theorem witness_EveryStepKeepsTheInvariant :
    Inv stTxn ∧ (nextOf (step stTxn)).isSome = true ∧
    Inv { State.reset with inbox := [.move (.remap 0xC0#8 (.delegate .lockup))] } ∧
    (nextOf (step { State.reset with inbox := [.move (.remap 0xC0#8 (.delegate .lockup))] })).isSome =
      true :=
  ⟨⟨admissible_defaults, by decide, by decide, by decide, by decide, by decide, by decide⟩, by decide,
    ⟨admissible_defaults, by decide, by decide, by decide, by decide, by decide, by decide⟩, by decide⟩

theorem witness_TransactionsNeverDecreaseACounter :
    stTxn.inbox = .txn 0x00008000#32 :: [] ∧ (nextOf (step stTxn)).isSome = true := by
  refine ⟨rfl, by decide⟩
theorem witness_TransactionsNeverWriteConfiguration :
    stTxn.inbox = .txn 0x00008000#32 :: [] ∧ (nextOf (step stTxn)).isSome = true := by
  refine ⟨rfl, by decide⟩

/-- `MR 0x8000` through a lockup entry. -/
def stLock : State := submit (banked (stV0 300) 0xA00000#24 0xA0 (.delegate .lockup)) (.mr 0x8000#16)

/-- A transaction that halts and one that does not. -/
theorem witness_OnlyALockupEntryHalts :
    stLock.inbox = .txn 0x00008000#32 :: [] ∧
    decode stLock.ctx 0x00008000#32 = .ok (.mrBank 0x8000#16) ∧ RunningAt stLock 300 ∧
    (nextOf (step stLock)).map (·.ccyc) = some .never ∧
    reachedEntry stLock (.mrBank 0x8000#16) = some (.delegate .lockup) ∧
    stLock.cfg.forceNoLockup = false ∧
    decode stTxn.ctx 0x00008000#32 = .ok (.mrBank 0x8000#16) ∧
    (nextOf (step stTxn)).map (·.ccyc) = some (.num 345) :=
  ⟨rfl, rfl, rfl, by decide, by decide, rfl, rfl, by decide⟩

/-- One operation that crosses onto the shared bus and one that does not. -/
theorem witness_OnlySharedBusAccessesCharge :
    crossesSharedBus (.mrBank 0x8000#16) = true ∧ (nextOf (step stTxn)).isSome = true ∧
    decode (submit (stV0 0) (.mr 0x4000#16)).ctx 0x00004000#32 = .ok (.mrSnd 0x4000#16) ∧
    crossesSharedBus (.mrSnd 0x4000#16) = false ∧
    (after (stV0 0) (.mr 0x4000#16)).isSome = true := ⟨rfl, by decide, rfl, rfl, by decide⟩
theorem witness_EachStateHasItsWriters :
    (∀ a d, Instr.mrBank 0x8000#16 ≠ .mwBsel a d) ∧ (∀ a d, Instr.mrBank 0x8000#16 ≠ .mwRam a d) ∧
    (∀ a d, Instr.mrBank 0x8000#16 ≠ .mwBank a d) ∧ (∀ p d, Instr.mrBank 0x8000#16 ≠ .pw2Actl p d) ∧
    callsPerWrite (.mrBank 0x8000#16) = false ∧ (nextOf (step stTxn)).isSome = true := by
  refine ⟨?_, ?_, ?_, ?_, rfl, by decide⟩ <;> (intro _ _ h; cases h)
theorem witness_TransactionsKeepTheUnnamedRunBits :
    stTxn.prm.owedBit ≠ 0 ∧ stTxn.inbox = .txn 0x00008000#32 :: [] ∧
    (nextOf (step stTxn)).map (·.run) = some 1 := ⟨by decide, rfl, by decide⟩
theorem witness_CallsAreOnlyAppended :
    stTxn.inbox = .txn 0x00008000#32 :: [] ∧ (nextOf (step stTxn)).isSome = true := by
  refine ⟨rfl, by decide⟩

/-- A reset with each choice taken both ways, and a halted block that a frame boundary leaves halted. -/
theorem witness_ExternalResetEndsAHalt :
    ({ stHalted with inbox := [.move (.externalReset (resetChoice none none (some 9)))] } : State).inbox =
      .move (.externalReset (resetChoice none none (some 9))) :: [] ∧
    (resetChoice none none (some 9)).bt = none ∧ (resetChoice none none (some 9)).redrawRam = none ∧
    (resetChoice none none (some 9)).redrawBufs = some 9 ∧ (resetChoice none none (some 9)).ssr = none ∧
    (resetChoice (some BankTable.launch) (some 8) none).bt = some BankTable.launch ∧
    btEntry BankTable.launch stHalted.prm.vidBtIndex = .delegate .video ∧
    (resetChoice (some BankTable.launch) (some 8) none).redrawRam = some 8 ∧
    (resetChoice (some BankTable.launch) (some 8) none).redrawBufs = none ∧
    ({ resetChoice none none none with ssr := some 0x04#8 } : ResetChoice).ssr = some 0x04#8 ∧
    Halted { stHalted with inbox := [.move (.frame 0 500 true)] } ∧
    (∀ r rest, ({ stHalted with inbox := [.move (.frame 0 500 true)] } : State).inbox ≠
      .move (.externalReset r) :: rest) ∧
    (nextOf (step { stHalted with inbox := [.move (.frame 0 500 true)] })).isSome = true :=
  ⟨rfl, rfl, rfl, rfl, rfl, rfl, by decide, rfl, rfl, rfl, rfl, nofun, by decide⟩

theorem witness_FrameBoundaryAndReconfiguration :
    ({ stHalted with inbox := [.move (.frame 0 500 true)] } : State).inbox =
      .move (.frame 0 500 true) :: [] ∧ Halted stHalted ∧ RunningAt (stV0 59000) 59000 ∧
    ({ stV0 0 with inbox := [.move (.reconfig true 9)] } : State).inbox = .move (.reconfig true 9) :: [] :=
  ⟨rfl, rfl, rfl, rfl⟩
end Sys2Proof.Tests
end

section
/-! PROOFS. A transaction (00_scope.md R10, R11): the step runs the decoded operation (O11), and the
operation appends at most two calls to the record and returns a byte exactly if it is a read (O58). The
second needs the direction of the word to survive the decode, and one law per shared operation. -/

namespace Sys2Proof

/-! ### The direction of an operation -/

/-- `MR` and `PR` return a byte (30_encoding.md R80). -/
def Transaction.isRead (t : Transaction) : Bool :=
  match t with
  | .mr _ | .pr _ => true
  | .mw _ _ | .pw _ _ => false

/-- An operation returns a byte: the transaction that carries it is a read, or it is one of the three
INTERNAL handlers that answer a read (48_fault_handlers.md R261, R263, R265). -/
def returnsByte (i : Instr) : Bool :=
  match i with
  | .umr _ | .lkr _ | .upr _ => true
  | i => (transactionFor i).any Transaction.isRead

theorem returnsByte_selectMemRead (c : Ctx) (a : Addr) : returnsByte (selectMemRead c a) = true := by
  fun_cases selectMemRead c a <;> rfl

theorem returnsByte_selectMemWrite (c : Ctx) (a : Addr) (d : Byte) :
    returnsByte (selectMemWrite c a d) = false := by
  fun_cases selectMemWrite c a d <;> rfl

theorem returnsByte_standardDefaultRead (c : Ctx) (p : Port) :
    returnsByte (standardDefaultRead c p) = true := by
  fun_cases standardDefaultRead c p <;> rfl

theorem returnsByte_standardDefaultWrite (c : Ctx) (p : Port) (d : Byte) :
    returnsByte (standardDefaultWrite c p d) = false := by
  fun_cases standardDefaultWrite c p d <;> rfl

theorem returnsByte_selectPortRead (c : Ctx) (p : Port) : returnsByte (selectPortRead c p) = true := by
  fun_cases selectPortRead c p
  case case1 => fun_cases primaryRead c p <;> rfl
  case case2 => fun_cases handheldRead c p <;> rfl
  case case3 =>
    fun_cases standardRead c p
    case case5 => exact returnsByte_standardDefaultRead c p
    all_goals rfl
  case case4 => fun_cases legacyRead c p <;> rfl
  case case5 => fun_cases firstGenRead p <;> rfl

theorem returnsByte_selectPortWrite (c : Ctx) (p : Port) (d : Byte) :
    returnsByte (selectPortWrite c p d) = false := by
  fun_cases selectPortWrite c p d
  case case1 => fun_cases primaryWrite c p d <;> rfl
  case case2 => fun_cases handheldWrite c p d <;> rfl
  case case3 =>
    fun_cases standardWrite c p d
    case case6 => exact returnsByte_standardDefaultWrite c p d
    all_goals rfl
  case case4 => fun_cases legacyWrite c p d <;> rfl
  case case5 => fun_cases firstGenWrite p d <;> rfl

/-- A transaction selects an operation of its own direction. -/
theorem returnsByte_select (c : Ctx) (t : Transaction) : returnsByte (select c t) = t.isRead := by
  cases t with
  | mr a => exact returnsByte_selectMemRead c a
  | mw a d => exact returnsByte_selectMemWrite c a d
  | pr port => exact returnsByte_selectPortRead c (portNumber port)
  | pw port d => exact returnsByte_selectPortWrite c (portNumber port) d

theorem isRead_transactionOf (w : TxnWord) : (transactionOf w).isRead = !fieldW w := by
  fun_cases transactionOf w <;> simp_all [Transaction.isRead]

/-- What the decoder accepts is the operation that the word's transaction selects (R92). -/
theorem eq_select_of_decode_ok (c : Ctx) (w : TxnWord) (i : Instr) (h : decode c w = .ok i) :
    i = select c (transactionOf w) := by
  unfold decode at h
  split at h
  · cases h
  · split at h
    · cases h; rfl
    · split at h
      · cases h
      · split at h
        · cases h; rfl
        · cases h

/-- `W = 1` is a write (R81): the decoded operation returns a byte exactly for a read word. -/
theorem returnsByte_of_decode_ok (c : Ctx) (w : TxnWord) (i : Instr) (h : decode c w = .ok i) :
    returnsByte i = !fieldW w := by
  rw [eq_select_of_decode_ok c w i h, returnsByte_select, isRead_transactionOf]

end Sys2Proof

namespace Sys2Proof.Machine

/-! ### The step on a transaction -/

theorem step_txn_of_decode_ok (s : State) (w : TxnWord) (rest : List Input) (i : Instr)
    (hin : s.inbox = .txn w :: rest) (hdec : decode s.ctx w = .ok i) :
    step s = exec i (s.setInbox rest) := by
  simp [step, hin, hdec]

/-- A transaction that completes is a word that decodes, and its operation completes. -/
theorem step_txn_next (s t : State) (w : TxnWord) (rest : List Input)
    (hin : s.inbox = .txn w :: rest) (hstep : step s = .next t) :
    ∃ i, decode s.ctx w = .ok i ∧ exec i (s.setInbox rest) = .next t := by
  cases hdec : decode s.ctx w with
  | error why => simp [step, hin, hdec] at hstep
  | ok i => exact ⟨i, rfl, by rw [← step_txn_of_decode_ok s w rest i hin hdec, hstep]⟩

/-! ### The calls and the returned byte of each shared operation -/

/-- From `s` to `t` the record of calls grows by at most two, and `t` returns a byte exactly if `byte`. -/
structure Answers (byte : Bool) (s t : State) : Prop where
  calls : ∃ l : List Call, t.calls = s.calls ++ l ∧ l.length ≤ 2
  ret : t.ret.isSome = byte

variable (s : State)

@[simp] theorem calls_addCycles (n : Nat) : (addCycles n s).calls = s.calls := by
  unfold addCycles; split <;> rfl

@[simp] theorem ret_addCycles (n : Nat) : (addCycles n s).ret = s.ret := by
  unfold addCycles; split <;> rfl

/-- `ARB` calls no collaborator (41_arbitration.md R141). -/
@[simp] theorem calls_arb (c0 : Nat) : (arb c0 s).calls = s.calls := by
  have hstall : (arbStall c0 s).calls = s.calls := by
    unfold arbStall
    split
    · split <;> rfl
    · rfl
  rw [arb, calls_addCycles, arbCharge, State.calls_setPcyc, hstall]

@[simp] theorem calls_lockup : (lockup s).calls = s.calls := by rw [lockup_eq]

theorem answers_setRet_some (t : State) (v : Byte) (h : t.calls = s.calls) :
    Answers true s (t.setRet (some v)) :=
  ⟨⟨[], by simp [h], by simp⟩, rfl⟩

theorem answers_setRet_none (t : State) (h : t.calls = s.calls) : Answers false s (t.setRet none) :=
  ⟨⟨[], by simp [h], by simp⟩, rfl⟩

theorem answers_callRead (c : Call) : Answers true s (callRead s c) := ⟨⟨[c], rfl, by simp⟩, rfl⟩

theorem answers_callWrite (c : Call) : Answers false s (callWrite s c) := ⟨⟨[c], rfl, by simp⟩, rfl⟩

theorem answers_callHv (cycle : Int) (p : Port) : Answers true s (callHv s cycle p) :=
  ⟨⟨[.vidHv cycle], rfl, by simp⟩, rfl⟩

theorem answers_callPerWrite (p : Port) (d : Byte) (offset : Int) :
    Answers false s (callPerWrite s p d offset) := by
  rw [callPerWrite_eq]; exact ⟨⟨_, rfl, by simp⟩, rfl⟩

theorem answers_callBshift (d : Byte) : Answers false s (callBshift s d) := by
  rw [callBshift_eq]; exact ⟨⟨_, rfl, by simp⟩, rfl⟩

/-- An unused port read is the floating byte, of two calls, or 0xFF (R265, R266). -/
theorem answers_unusedPortRead : Answers true s (unusedPortRead s) := by
  unfold unusedPortRead
  split
  · rw [openBus_eq]; exact ⟨⟨_, rfl, by simp⟩, rfl⟩
  · exact answers_setRet_some s s _ rfl

theorem answers_handlerRead (h : Handler) (addr : PAddr) : Answers true s (handlerRead h addr s) := by
  cases h with
  | lockup => exact answers_setRet_some s (lockup s) _ (calls_lockup s)
  | unused => exact answers_setRet_some s s _ rfl
  | video => exact answers_callRead s _
  | ext id => exact answers_callRead s _

theorem answers_handlerWrite (h : Handler) (addr : PAddr) (v : Byte) :
    Answers false s (handlerWrite h addr v s) := by
  cases h with
  | lockup => exact answers_setRet_none s (lockup s) (calls_lockup s)
  | unused => exact answers_setRet_none s s rfl
  | video => exact answers_callWrite s _
  | ext id => exact answers_callWrite s _

theorem answers_entryRead (e : BtEntry) (ea : PAddr) : Answers true s (entryRead e ea s) := by
  cases e with
  | direct buf => exact answers_setRet_some s s _ rfl
  | delegate h => exact answers_handlerRead s h ea

theorem answers_entryWrite (e : BtEntry) (ea : PAddr) (v : Byte) :
    Answers false s (entryWrite e ea v s) := by
  cases e with
  | direct buf => exact answers_setRet_none s _ rfl
  | delegate h => exact answers_handlerWrite s h ea v

variable {s} {t : State} {byte : Bool}

/-- A first part that makes no call may stand before the answer. -/
theorem Answers.after {s' : State} (ha : Answers byte s' t) (h : s'.calls = s.calls) :
    Answers byte s t :=
  ⟨h ▸ ha.calls, ha.ret⟩

theorem Answers.then_addCycles (ha : Answers byte s t) (n : Nat) : Answers byte s (addCycles n t) :=
  ⟨by rw [calls_addCycles]; exact ha.calls, by rw [ret_addCycles]; exact ha.ret⟩

theorem Answers.of_running {k : Nat → State} (h : running s k = .next t)
    (hk : ∀ c, Answers byte s (k c)) : Answers byte s t := by
  obtain ⟨c, -, rfl⟩ := running_next s t k h
  exact hk c

/-- A read through the video window that completes has forwarded to a handler (R115). -/
theorem execMrVid_next {a : Addr} (h : execMrVid a s = .next t) :
    ∃ c d, RunningAt s c ∧ videoEntry s = .delegate d ∧ t = handlerRead d (windowAddress a) (arb c s) := by
  obtain ⟨c, hc, hk⟩ := whenRunning_next s t _ h
  cases he : videoEntry s with
  | direct buf => simp [he] at hk
  | delegate d => exact ⟨c, d, hc, rfl, by simpa [he] using hk.symm⟩

/-- A write through the video window that completes has forwarded to a handler (R116). -/
theorem execMwVid_next {a : Addr} {v : Byte} (h : execMwVid a v s = .next t) :
    ∃ c d, RunningAt s c ∧ videoEntry s = .delegate d ∧
      t = handlerWrite d (windowAddress a) v (arb c s) := by
  obtain ⟨c, hc, hk⟩ := whenRunning_next s t _ h
  cases he : videoEntry s with
  | direct buf => simp [he] at hk
  | delegate d => exact ⟨c, d, hc, rfl, by simpa [he] using hk.symm⟩

/-- Every operation that completes. The groups are those of the shared operation it ends in. -/
theorem answers_of_exec_next (i : Instr) (s t : State) (h : exec i s = .next t) :
    Answers (returnsByte i) s t := by
  cases i with
  | mrRam | mrCunused => exact .of_running h fun _ => answers_setRet_some s s _ rfl
  | mwRam | mwCunused => exact .of_running h fun _ => answers_setRet_none s _ rfl
  | mrSnd | prVdata | prVctrl | pr0Fm | pr1Hio | pr2Tfm | pr2Xfm | pr2Perg | pr3Fm | pr3Per | pr4Vctrl
  | pr4Per => exact .of_running h fun _ => answers_callRead s _
  | mwSnd | pwVdata | pwVctrl | pwSgen | pw0Fm | pw1Hio | pw2Tfm | pw2Xfm | pw4Vctrl =>
    exact .of_running h fun _ => answers_callWrite s _
  | mrVid a =>
    obtain ⟨c, d, -, -, rfl⟩ := execMrVid_next h
    exact (answers_handlerRead (arb c s) d _).after (calls_arb s c)
  | mwVid a v =>
    obtain ⟨c, d, -, -, rfl⟩ := execMwVid_next h
    exact (answers_handlerWrite (arb c s) d _ v).after (calls_arb s c)
  | mrBank a =>
    exact .of_running h fun c => (answers_entryRead (arb c s) _ _).after (calls_arb s c)
  | mwBank a d =>
    exact .of_running h fun c => (answers_entryWrite (arb c s) _ _ d).after (calls_arb s c)
  | mwBsel a d => exact .of_running h fun _ => answers_callBshift s d
  | prHv | pr0Hv => exact .of_running h fun _ => answers_callHv s _ _
  | pw0Per | pw1Per3E | pw2Per | pw3Per => exact .of_running h fun _ => answers_callPerWrite s _ _ _
  | pr0B00 | pr0Def | pr1B00 | pr1Def | pr2B00 | pr2Def | pr3B00 | pr3Def | pr4B00 | pr4B40 =>
    exact .of_running h fun _ => answers_unusedPortRead s
  | pw0Def | pw1B00 | pw1Def | pw2B00 | pw2Def | pw3B00 | pw3Def | pw4B00 | pw4Def =>
    exact .of_running h fun _ => answers_setRet_none s s rfl
  | pr1Per3E p =>
    refine .of_running h fun _ => ?_
    split
    · exact answers_callRead s _
    · exact answers_unusedPortRead s
  | pw2Actl p d => exact .of_running h fun _ => ⟨⟨_, List.append_assoc _ _ _, by simp⟩, rfl⟩
  | pw3Fm p d =>
    refine .of_running h fun _ => ?_
    split
    · exact ⟨⟨_, List.append_assoc _ _ _, by simp⟩, rfl⟩
    · exact answers_callWrite s _
  | pw4Sgen p d =>
    exact .of_running h fun c => (answers_callWrite s (.sgenWrite c d)).then_addCycles 480
  | arb => exact .of_running h fun c => answers_setRet_none s (arb c s) (calls_arb s c)
  | umr => cases h; exact answers_setRet_some s s _ rfl
  | umw | upw => cases h; exact answers_setRet_none s s rfl
  | lkr => cases h; exact answers_setRet_some s (lockup s) _ (calls_lockup s)
  | lkw => cases h; exact answers_setRet_none s (lockup s) (calls_lockup s)
  | upr => cases h; exact answers_unusedPortRead s

end Sys2Proof.Machine

open Sys2Proof Sys2Proof.Machine

/-- Settles O11: `step` unfolds to the arm of a decodable word. -/
theorem stepRunsTheDecodedOperation : Obligations.StepRunsTheDecodedOperation := by
  intro s w rest i hin hdec
  exact step_txn_of_decode_ok s w rest i hin hdec

/-- Settles O58: the word decodes to an operation of its own direction, and each operation ends in a
shared one that makes at most two calls. -/
theorem callsAreOnlyAppended : Obligations.CallsAreOnlyAppended := by
  intro s t w rest hin hstep
  obtain ⟨i, hdec, hexec⟩ := step_txn_next s t w rest hin hstep
  obtain ⟨hcalls, hret⟩ := answers_of_exec_next i (s.setInbox rest) t hexec
  exact ⟨hcalls, by rw [hret, returnsByte_of_decode_ok s.ctx w i hdec]⟩

end

section
/-! PROOFS. What a transaction may change (10_state.md R20, R24, R33, R36, R39, R40) and what every step
keeps (R33). Said once: a completed operation takes the state by `Evolves`, the part every operation may
have in it (calls, counters, RUN, the returned byte), and then by at most one write of its own, `OwnWrite`
(R39). The obligations are read off these two. -/

namespace Sys2Proof.Machine

/-! ### The order of CCYC (R21) -/

theorem Cycle.le_refl (x : Cycle) : x.le x = true := by
  cases x <;> simp [Cycle.le]

theorem Cycle.le_never (x : Cycle) : x.le .never = true := by
  cases x <;> rfl

theorem Cycle.le_trans {x y z : Cycle} (hxy : x.le y = true) (hyz : y.le z = true) : x.le z = true := by
  match x, y, z with
  | _, _, .never => exact Cycle.le_never _
  | .num a, .num b, .num c =>
    simp only [Cycle.le, decide_eq_true_eq] at *
    omega

/-! ### The common part of every operation -/

/-- The part of the state that an operation changes by a write of its own only (R39): all but the counters,
RUN, the record of calls, the collaborators' unseen state and the returned byte. -/
def State.held (s : State) : State :=
  { s with ccyc := .num 0, pcyc := 0, run := 0, ext := 0, calls := [], ret := none }

/-- From `s` to `t` the counters do not fall (R33), the calls are only added to and `ext` moves by them only
(R40), RUN gains the owed bit at most and loses bit 0 at most (R24, R36), and no other field but `ret`
changes. -/
structure Evolves (s t : State) : Prop where
  held : t.held = s.held
  calls : s.calls <+: t.calls
  ext : t.calls = s.calls → t.ext = s.ext
  ccyc : s.ccyc.le t.ccyc = true
  pcyc : s.pcyc ≤ t.pcyc
  runSet : ∀ j, t.run.testBit j = true → s.run.testBit j = true ∨ j = s.prm.owedBit
  runCleared : ∀ j, s.run.testBit j = true → t.run.testBit j = true ∨ j = 0

section Fields
variable {s t : State} (h : Evolves s t)
include h

theorem Evolves.cfg : t.cfg = s.cfg := (congrArg State.cfg h.held :)
theorem Evolves.prm : t.prm = s.prm := (congrArg State.prm h.held :)
theorem Evolves.dma : t.dma = s.dma := (congrArg State.dma h.held :)
theorem Evolves.bank : t.bank = s.bank := (congrArg State.bank h.held :)
theorem Evolves.bt : t.bt = s.bt := (congrArg State.bt h.held :)
theorem Evolves.ssr : t.ssr = s.ssr := (congrArg State.ssr h.held :)
theorem Evolves.ram : t.ram = s.ram := (congrArg State.ram h.held :)
theorem Evolves.bufs : t.bufs = s.bufs := (congrArg State.bufs h.held :)
theorem Evolves.ramDraw : t.ramDraw = s.ramDraw := (congrArg State.ramDraw h.held :)
theorem Evolves.bufDraw : t.bufDraw = s.bufDraw := (congrArg State.bufDraw h.held :)
theorem Evolves.inbox : t.inbox = s.inbox := (congrArg State.inbox h.held :)

/-- RUN stays within a width that has room for the owed bit. -/
theorem Evolves.run_lt {width : Nat} (howed : s.prm.owedBit < width) (hs : s.run < 2 ^ width) :
    t.run < 2 ^ width := by
  rw [lt_two_pow_iff] at hs ⊢
  intro j hj
  refine Bool.eq_false_iff.mpr fun hset => ?_
  obtain hset | rfl := h.runSet j hset
  · simp [hs j hj] at hset
  · omega

end Fields

theorem evolves_refl (s : State) : Evolves s s where
  held := rfl
  calls := List.prefix_rfl
  ext _ := rfl
  ccyc := Cycle.le_refl s.ccyc
  pcyc := Nat.le_refl s.pcyc
  runSet _ := Or.inl
  runCleared _ := Or.inl

theorem Evolves.trans {s t u : State} (h : Evolves s t) (h' : Evolves t u) : Evolves s u where
  held := h'.held.trans h.held
  calls := h.calls.trans h'.calls
  ext hcalls := by
    have ht : t.calls = s.calls :=
      (h.calls.eq_of_length_le (hcalls ▸ h'.calls.length_le)).symm
    exact (h'.ext (hcalls.trans ht.symm)).trans (h.ext ht)
  ccyc := Cycle.le_trans h.ccyc h'.ccyc
  pcyc := Nat.le_trans h.pcyc h'.pcyc
  runSet j hj := (h'.runSet j hj).elim (h.runSet j) fun e => .inr (h.prm ▸ e)
  runCleared j hj := (h.runCleared j hj).elim (h'.runCleared j) .inr

/-! ### The updates -/

variable (s : State)

theorem evolves_setRet (v : Option Byte) : Evolves s (s.setRet v) := { evolves_refl s with }

theorem Evolves.setRet {s t : State} (h : Evolves s t) (v : Option Byte) : Evolves s (t.setRet v) :=
  h.trans (evolves_setRet t v)

/-- A call that alone changes no state (48_fault_handlers.md R266). -/
theorem evolves_noteCall (c : Call) : Evolves s (s.noteCall c) :=
  { evolves_refl s with
    calls := List.prefix_append _ _
    ext := fun _ => rfl }

theorem evolves_record (c : Call) : Evolves s (s.record c) :=
  { evolves_refl s with
    calls := List.prefix_append _ _
    ext := fun h => absurd h (by simp) }

theorem evolves_setCcyc (c : Cycle) (h : s.ccyc.le c = true) : Evolves s (s.setCcyc c) :=
  { evolves_refl s with ccyc := h }

theorem evolves_setPcyc (n : Nat) (h : s.pcyc ≤ n) : Evolves s (s.setPcyc n) :=
  { evolves_refl s with pcyc := h }

theorem evolves_setRun_setOwed : Evolves s (s.setRun (setOwed s.prm.owedBit s.run)) :=
  { evolves_refl s with
    runSet := fun j hj => by simpa [setOwed_testBit] using hj
    runCleared := fun j hj => by simp [setOwed_testBit, hj] }

theorem evolves_setRun_clearEnable : Evolves s (s.setRun (clearEnable s.run)) :=
  { evolves_refl s with
    runSet := fun j hj => by simp_all [clearEnable_testBit]
    runCleared := fun j hj => by simp [clearEnable_testBit, hj, em'] }

/-! ### The shared operations -/

theorem evolves_addCycles (n : Nat) : Evolves s (addCycles n s) := by
  unfold addCycles
  split
  next c hc => exact evolves_setCcyc s _ (by simp [hc, Cycle.le])
  next => exact evolves_refl s

/-- A stall moves CCYC forward: it needs `CCYC` before the end of the transfer (41_arbitration.md R143). -/
theorem evolves_arbStall {c : Nat} (hc : RunningAt s c) : Evolves s (arbStall c s) := by
  unfold arbStall
  split
  next hstall =>
    have hend : Evolves s (s.setCcyc (.num s.dma.endCycle)) :=
      evolves_setCcyc s _ (by simp [hc, Cycle.le, hstall.2.le])
    split
    · exact hend.trans (evolves_setRun_setOwed _)
    · exact hend
  next => exact evolves_refl s

theorem evolves_arb {c : Nat} (hc : RunningAt s c) : Evolves s (arb c s) :=
  ((evolves_arbStall s hc).trans (evolves_setPcyc _ _ (Nat.le_add_right _ _))).trans
    (evolves_addCycles _ 45)

theorem evolves_lockup : Evolves s (lockup s) := by
  unfold lockup
  split
  · exact evolves_refl s
  · exact (evolves_setCcyc s _ (Cycle.le_never _)).trans (evolves_setRun_clearEnable _)

theorem evolves_callRead (c : Call) : Evolves s (callRead s c) := (evolves_record s c).setRet _

theorem evolves_callWrite (c : Call) : Evolves s (callWrite s c) := (evolves_record s c).setRet _

theorem evolves_callHv (cycle : Int) (p : Port) : Evolves s (callHv s cycle p) :=
  (evolves_record s _).setRet _

theorem evolves_unusedPortRead : Evolves s (unusedPortRead s) := by
  unfold unusedPortRead
  split
  · exact ((evolves_noteCall s _).trans (evolves_noteCall _ _)).setRet _
  · exact evolves_setRet s _

theorem evolves_handlerRead (h : Handler) (addr : PAddr) : Evolves s (handlerRead h addr s) := by
  cases h with
  | lockup => exact (evolves_lockup s).setRet _
  | unused => exact evolves_setRet s _
  | video | ext id => exact evolves_callRead s _

theorem evolves_handlerWrite (h : Handler) (addr : PAddr) (v : Byte) :
    Evolves s (handlerWrite h addr v s) := by
  cases h with
  | lockup => exact (evolves_lockup s).setRet _
  | unused => exact evolves_setRet s _
  | video | ext id => exact evolves_callWrite s _

theorem evolves_entryRead (e : BtEntry) (ea : PAddr) : Evolves s (entryRead e ea s) := by
  cases e with
  | direct buf => exact evolves_setRet s _
  | delegate h => exact evolves_handlerRead s h ea

/-! ### The write of an operation's own -/

/-- `t` is `s` after the write that `i` alone may make, if it makes one (R39, R40): the owner of each part
of the state, by name. -/
inductive OwnWrite : Instr → State → State → Prop where
  | none (i : Instr) (s : State) : OwnWrite i s s
  | bank (a : Addr) (d : Byte) (s : State) (b : PAddr) (h : bankAligned b = true) :
      OwnWrite (.mwBsel a d) s (s.setBank b)
  | ram (a : Addr) (d : Byte) (s : State) (o : BitVec 13) (v : Byte) :
      OwnWrite (.mwRam a d) s (s.writeRam o v)
  | buf (a : Addr) (d : Byte) (s : State) (n : Nat) (o : BitVec 16) (v : Byte) :
      OwnWrite (.mwBank a d) s (s.writeBuf n o v)
  | audioControl (p : Port) (d : Byte) (s : State) (v : Byte) : OwnWrite (.pw2Actl p d) s (s.setSsr v)
  | perWrite (i : Instr) (s : State) (v : Byte) (h : callsPerWrite i = true) : OwnWrite i s (s.setSsr v)

section Owners
variable {s t : State} {i : Instr} (h : OwnWrite i s t)
include h

/-- What no operation writes. -/
theorem OwnWrite.frame : t = { s with bank := t.bank, ssr := t.ssr, ram := t.ram, bufs := t.bufs } := by
  cases h <;> rfl

theorem OwnWrite.bank_eq (hi : ∀ a d, i ≠ .mwBsel a d) : t.bank = s.bank := by
  cases h with
  | bank a d => exact absurd rfl (hi a d)
  | _ => rfl

theorem OwnWrite.ramByte_eq (hi : ∀ a d, i ≠ .mwRam a d) (o : BitVec 13) : ramByte t o = ramByte s o := by
  cases h with
  | ram a d => exact absurd rfl (hi a d)
  | _ => rfl

theorem OwnWrite.bufByte_eq (hi : ∀ a d, i ≠ .mwBank a d) (b : Nat) (o : BitVec 16) :
    bufByte t b o = bufByte s b o := by
  cases h with
  | buf a d => exact absurd rfl (hi a d)
  | _ => rfl

theorem OwnWrite.ssr_eq (hi : ∀ p d, i ≠ .pw2Actl p d) (hper : callsPerWrite i = false) :
    t.ssr = s.ssr := by
  cases h with
  | audioControl p d => exact absurd rfl (hi p d)
  | perWrite _ _ _ hcalls => exact absurd (hcalls.symm.trans hper) (by decide)
  | _ => rfl

end Owners

/-- The common part, then at most one write of the operation's own. -/
def Performs (i : Instr) (s t : State) : Prop := ∃ u, Evolves s u ∧ OwnWrite i u t

variable {s} {t : State} {i : Instr}

theorem Evolves.performs (h : Evolves s t) : Performs i s t := ⟨t, h, .none i t⟩

theorem Performs.of_running {k : Nat → State} (h : running s k = .next t)
    (hk : ∀ c, RunningAt s c → Performs i s (k c)) : Performs i s t := by
  obtain ⟨c, hc, rfl⟩ := running_next s t k h
  exact hk c hc

theorem performs_callPerWrite (p : Port) (d : Byte) (offset : Int) (hi : callsPerWrite i = true) :
    Performs i s (callPerWrite s p d offset) :=
  ⟨_, evolves_callWrite s _, .perWrite i _ _ hi⟩

/-- A write through an entry stores in a Direct buffer, or goes to a handler (20_memory.md R58, R59). -/
theorem performs_entryWrite {u : State} (h : Evolves s u) (a : Addr) (d : Byte) (e : BtEntry) (ea : PAddr)
    (v : Byte) : Performs (.mwBank a d) s (entryWrite e ea v u) := by
  cases e with
  | direct buf => exact ⟨_, h.setRet none, .buf a d _ buf (bufOffset ea) v⟩
  | delegate hd => exact (h.trans (evolves_handlerWrite u hd ea v)).performs

/-- Every operation that completes. The groups are those of the shared operation it ends in. -/
theorem performs_of_exec_next (i : Instr) (s t : State) (h : exec i s = .next t) : Performs i s t := by
  cases i with
  | mrRam | mrCunused | mwCunused | pw0Def | pw1B00 | pw1Def | pw2B00 | pw2Def | pw3B00 | pw3Def | pw4B00
  | pw4Def => exact .of_running h fun _ _ => (evolves_setRet s _).performs
  | mrSnd | prVdata | prVctrl | pr0Fm | pr1Hio | pr2Tfm | pr2Xfm | pr2Perg | pr3Fm | pr3Per | pr4Vctrl
  | pr4Per => exact .of_running h fun _ _ => (evolves_callRead s _).performs
  | mwSnd | pwVdata | pwVctrl | pwSgen | pw0Fm | pw1Hio | pw2Tfm | pw2Xfm | pw4Vctrl =>
    exact .of_running h fun _ _ => (evolves_callWrite s _).performs
  | pr0B00 | pr0Def | pr1B00 | pr1Def | pr2B00 | pr2Def | pr3B00 | pr3Def | pr4B00 | pr4B40 =>
    exact .of_running h fun _ _ => (evolves_unusedPortRead s).performs
  | prHv | pr0Hv => exact .of_running h fun _ _ => (evolves_callHv s _ _).performs
  | pw0Per | pw1Per3E | pw2Per | pw3Per =>
    exact .of_running h fun _ _ => performs_callPerWrite _ _ _ rfl
  | mwRam a d => exact .of_running h fun _ _ => ⟨_, evolves_setRet s none, .ram a d _ _ d⟩
  | mwBsel a d =>
    exact .of_running h fun _ _ =>
      ⟨_, evolves_callWrite s _, .bank a d _ _ (bankShift_aligned s.prm.bshift s.bank d)⟩
  | mrVid a =>
    obtain ⟨c, d, hc, -, rfl⟩ := execMrVid_next h
    exact ((evolves_arb s hc).trans (evolves_handlerRead _ d _)).performs
  | mwVid a v =>
    obtain ⟨c, d, hc, -, rfl⟩ := execMwVid_next h
    exact ((evolves_arb s hc).trans (evolves_handlerWrite _ d _ v)).performs
  | mrBank a =>
    exact .of_running h fun _ hc => ((evolves_arb s hc).trans (evolves_entryRead _ _ _)).performs
  | mwBank a d => exact .of_running h fun _ hc => performs_entryWrite (evolves_arb s hc) a d _ _ d
  | pr1Per3E p =>
    refine .of_running h fun _ _ => ?_
    split
    · exact (evolves_callRead s _).performs
    · exact (evolves_unusedPortRead s).performs
  | pw2Actl p d =>
    exact .of_running h fun _ _ =>
      ⟨_, (evolves_record s _).trans (evolves_callWrite _ _), .audioControl p d _ d⟩
  | pw3Fm p d =>
    refine .of_running h fun _ _ => ?_
    split
    · exact ((evolves_callWrite s _).trans (evolves_record _ _)).performs
    · exact (evolves_callWrite s _).performs
  | pw4Sgen p d =>
    exact .of_running h fun _ _ => ((evolves_callWrite s _).trans (evolves_addCycles _ 480)).performs
  | arb => exact .of_running h fun _ hc => ((evolves_arb s hc).setRet none).performs
  | umr | umw | upw => cases h; exact (evolves_setRet s _).performs
  | lkr | lkw => cases h; exact ((evolves_lockup s).setRet _).performs
  | upr => cases h; exact (evolves_unusedPortRead s).performs

theorem performs_of_step_txn_next {w : TxnWord} {rest : List Input} (hin : s.inbox = .txn w :: rest)
    (hstep : step s = .next t) : ∃ i, Performs i (s.setInbox rest) t := by
  obtain ⟨i, -, hexec⟩ := step_txn_next s t w rest hin hstep
  exact ⟨i, performs_of_exec_next i _ t hexec⟩

/-! ### The invariant -/

/-- R7: RUN has room for the owed bit. -/
theorem owedBit_lt_runWidth {q : Prm} (h : q.Admissible) : q.owedBit < q.runWidth := by
  obtain ⟨-, -, -, -, howed, -⟩ := h
  exact howed

/-- The common part writes nothing the invariant speaks of but RUN, which stays within its width. -/
theorem Evolves.inv (h : Evolves s t) (hs : Inv s) : Inv t := by
  obtain ⟨hadm, hvid, hbank, hrun, hramWf, hramBelow, hbufs⟩ := hs
  have hvideo : videoEntry t = videoEntry s := by rw [videoEntry, videoEntry, h.bt, h.prm]
  refine ⟨?_, ?_, ?_, ?_, ?_, ?_, ?_⟩
  · rwa [h.prm]
  · rwa [hvideo]
  · rwa [h.bank]
  · rw [h.prm]; exact h.run_lt (owedBit_lt_runWidth hadm) hrun
  · rwa [h.ram]
  · rwa [h.ram]
  · rwa [h.bufs]

/-- A RAM write is below 8192: the offset has 13 bits (R31). -/
theorem inv_writeRam (o : BitVec 13) (v : Byte) (hs : Inv s) : Inv (s.writeRam o v) := by
  obtain ⟨hadm, hvid, hbank, hrun, hramWf, hramBelow, hbufs⟩ := hs
  exact ⟨hadm, hvid, hbank, hrun, memWf_memWrite _ _ v hramWf,
    memBelow_memWrite 8192 _ _ v o.isLt hramBelow, hbufs⟩

theorem inv_writeBuf (n : Nat) (o : BitVec 16) (v : Byte) (hs : Inv s) : Inv (s.writeBuf n o v) := by
  obtain ⟨hadm, hvid, hbank, hrun, hramWf, hramBelow, hbufs⟩ := hs
  exact ⟨hadm, hvid, hbank, hrun, hramWf, hramBelow, memWf_memWrite _ _ v hbufs⟩

theorem OwnWrite.inv (h : OwnWrite i s t) (hs : Inv s) : Inv t := by
  cases h with
  | none => exact hs
  | bank a d _ b hb =>
    obtain ⟨hadm, hvid, -, hrest⟩ := hs
    exact ⟨hadm, hvid, hb, hrest⟩
  | ram a d _ o v => exact inv_writeRam o v hs
  | buf a d _ n o v => exact inv_writeBuf n o v hs
  | audioControl | perWrite => exact hs

theorem Performs.inv (h : Performs i s t) (hs : Inv s) : Inv t := by
  obtain ⟨u, hu, hwrite⟩ := h
  exact hwrite.inv (hu.inv hs)

theorem clearOwed_lt {r width : Nat} (b : Nat) (h : r < 2 ^ width) : clearOwed b r < 2 ^ width := by
  rw [lt_two_pow_iff] at h ⊢
  intro j hj
  simp [clearOwed_testBit, h j hj]

theorem replaceOthers_lt {r width b : Nat} (n : Nat) (hb : b < width) :
    replaceOthers width b r n < 2 ^ width := by
  rw [lt_two_pow_iff]
  intro j hj
  rw [replaceOthers_testBit, if_neg (by omega)]
  simp [hj]

/-- A value of BANK the host may install is aligned (60_exceptions.md R300, H11). -/
theorem bankAligned_bankOf (high : BitVec 9) : bankAligned (bankOf high) = true :=
  beq_iff_eq.mpr BitVec.extractLsb'_append_eq_right

/-- A remap leaves the video device's entry a Delegate (H6, H10). -/
theorem isDelegate_btEntry_set {table : BankTable} {index vid : Byte} {e : BtEntry}
    (hold : isDelegate (btEntry table vid) = true) (hduty : (index != vid || isDelegate e) = true) :
    isDelegate (btEntry (table.set index.toNat e index.isLt) vid) = true := by
  rw [btEntry_set]
  split
  next heq => simpa [heq] using hduty
  next => exact hold

/-- H2 moves the counters, of which the invariant says nothing. -/
theorem inv_hostAdvance (dc dp : Nat) (hs : Inv s) : Inv (hostAdvance dc dp s) := by
  have hcycles : Inv (addCycles dc s) := (evolves_addCycles s dc).inv hs
  exact hcycles

theorem inv_hostFrame (ccyc pcyc : Nat) (clear : Bool) (hs : Inv s) : Inv (hostFrame ccyc pcyc clear s) := by
  obtain ⟨hadm, hvid, hbank, hrun, hmem⟩ := hs
  refine ⟨hadm, hvid, hbank, ?_, hmem⟩
  cases clear with
  | true => exact clearOwed_lt _ hrun
  | false => exact hrun

/-- An external reset draws the RAM afresh or keeps it (R298, R311). -/
theorem ram_hostReset (r : ResetChoice) (s : State) :
    (hostReset r s).ram = [] ∨ (hostReset r s).ram = s.ram := by
  cases h : r.redrawRam <;> simp [hostReset, h]

theorem bufs_hostReset (r : ResetChoice) (s : State) :
    (hostReset r s).bufs = [] ∨ (hostReset r s).bufs = s.bufs := by
  cases h : r.redrawBufs <;> simp [hostReset, h]

theorem isDelegate_videoEntry_hostReset {r : ResetChoice} (hold : isDelegate (videoEntry s) = true)
    (hduty : keepsDuties (.externalReset r) s = true) :
    isDelegate (videoEntry (hostReset r s)) = true := by
  cases hbt : r.bt with
  | none => simpa [videoEntry, hostReset, hbt] using hold
  | some table => simpa [videoEntry, hostReset, keepsDuties, hbt] using hduty

theorem inv_hostReset (r : ResetChoice) (hs : Inv s) (hduty : keepsDuties (.externalReset r) s = true) :
    Inv (hostReset r s) := by
  obtain ⟨hadm, hvid, -, -, hramWf, hramBelow, hbufs⟩ := hs
  have hram : memWf (hostReset r s).ram = true ∧ memBelow 8192 (hostReset r s).ram = true := by
    obtain h | h := ram_hostReset r s <;> rw [h]
    · exact ⟨rfl, rfl⟩
    · exact ⟨hramWf, hramBelow⟩
  have hbuf : memWf (hostReset r s).bufs = true := by
    obtain h | h := bufs_hostReset r s <;> rw [h]
    · rfl
    · exact hbufs
  exact ⟨hadm, isDelegate_videoEntry_hostReset hvid hduty, bankAligned_bankOf r.bankHigh,
    Nat.mod_lt _ (Nat.two_pow_pos _), hram.1, hram.2, hbuf⟩

theorem inv_hostMove (m : HostMove) (hs : Inv s) (hduty : keepsDuties m s = true) : Inv (hostMove m s) := by
  cases m with
  | setDma | setSsr | reconfig | outside => exact hs
  | advance dc dp => exact inv_hostAdvance dc dp hs
  | frame ccyc pcyc clear => exact inv_hostFrame ccyc pcyc clear hs
  | setRun run =>
    obtain ⟨hadm, hvid, hbank, -, hmem⟩ := hs
    exact ⟨hadm, hvid, hbank, replaceOthers_lt run (owedBit_lt_runWidth hadm), hmem⟩
  | pokeRam o v => exact inv_writeRam o v hs
  | pokeBuf n o v => exact inv_writeBuf n o v hs
  | remap index e =>
    obtain ⟨hadm, hvid, hrest⟩ := hs
    exact ⟨hadm, isDelegate_btEntry_set hvid hduty, hrest⟩
  | externalReset r => exact inv_hostReset r hs hduty

/-- A move is performed only if it keeps the host's duties (60_exceptions.md R300). -/
theorem step_move_next {m : HostMove} {rest : List Input} (hin : s.inbox = .move m :: rest)
    (hstep : step s = .next t) : keepsDuties m s = true ∧ t = hostMove m (s.setInbox rest) := by
  simp only [step, hin] at hstep
  split at hstep
  next hduty => cases hstep; exact ⟨hduty, rfl⟩
  next => cases hstep

end Sys2Proof.Machine

open Sys2Proof Sys2Proof.Machine

/-- Settles O50, by the kinds of step: none, a transaction, a move of the host. -/
theorem everyStepKeepsTheInvariant : Obligations.EveryStepKeepsTheInvariant := by
  intro s t hs hstep
  match hin : s.inbox with
  | [] =>
    simp only [step, hin] at hstep
    cases hstep; exact hs
  | .txn w :: rest =>
    obtain ⟨i, hperf⟩ := performs_of_step_txn_next hin hstep
    exact hperf.inv hs
  | .move m :: rest =>
    obtain ⟨hduty, rfl⟩ := step_move_next hin hstep
    exact inv_hostMove m (s := s.setInbox rest) hs hduty

/-- Settles O51: the launch values, at which only the free offsets do not compute. -/
theorem resetStateMeetsTheInvariant : Obligations.ResetStateMeetsTheInvariant := by
  have hadm : Prm.defaults.Admissible :=
    ⟨by decide, by decide, by decide, by decide, by decide, ofsHandheld_ne_ofsPrimary, by decide, rfl,
      by decide⟩
  exact ⟨⟨hadm, by decide, by decide, by decide, rfl, rfl, rfl⟩, rfl, by decide, by decide⟩

/-- Settles O52: the counters rise in the common part, and no own write touches them. -/
theorem transactionsNeverDecreaseACounter : Obligations.TransactionsNeverDecreaseACounter := by
  intro s t w rest hin hstep
  obtain ⟨i, u, hu, hwrite⟩ := performs_of_step_txn_next hin hstep
  rw [hwrite.frame]
  exact ⟨hu.ccyc, hu.pcyc⟩

/-- Settles O53: neither the common part nor an own write touches the configuration. -/
theorem transactionsNeverWriteConfiguration : Obligations.TransactionsNeverWriteConfiguration := by
  intro s t w rest hin hstep
  obtain ⟨i, u, hu, hwrite⟩ := performs_of_step_txn_next hin hstep
  rw [hwrite.frame]
  exact ⟨hu.cfg, hu.prm, hu.dma, hu.bt, hu.ramDraw, hu.bufDraw, hu.ext, hu.inbox⟩

/-- Settles O56: each part is changed by the write of its owner only. -/
theorem eachStateHasItsWriters : Obligations.EachStateHasItsWriters := by
  intro s t w rest i hin hdec hstep
  rw [step_txn_of_decode_ok s w rest i hin hdec] at hstep
  obtain ⟨u, hu, hwrite⟩ := performs_of_exec_next i _ t hstep
  refine ⟨fun hi => ?_, fun hi o => ?_, fun hi b o => ?_, fun hi hper => ?_⟩
  · exact (hwrite.bank_eq hi).trans hu.bank
  · rw [hwrite.ramByte_eq hi, ramByte, hu.ram, hu.ramDraw]; rfl
  · rw [hwrite.bufByte_eq hi, bufByte, hu.bufs, hu.bufDraw]; rfl
  · exact (hwrite.ssr_eq hi hper).trans hu.ssr

/-- Settles O57: RUN gains the owed bit at most and loses bit 0 at most. -/
theorem transactionsKeepTheUnnamedRunBits : Obligations.TransactionsKeepTheUnnamedRunBits := by
  intro s t w rest howed hin hstep
  obtain ⟨i, u, hu, hwrite⟩ := performs_of_step_txn_next hin hstep
  rw [hwrite.frame]
  refine ⟨fun h => ?_, fun h => ?_, fun j h0 hj => ?_⟩
  · exact (hu.runSet 0 h).resolve_right howed.symm
  · exact (hu.runCleared _ h).resolve_right howed
  · exact Bool.eq_iff_iff.mpr
      ⟨fun h => (hu.runSet j h).resolve_right hj, fun h => (hu.runCleared j h).resolve_right h0⟩

end

section
/-! PROOFS. Local RAM and its mirrors, the banked-window combiner, the floating byte (20_memory.md R54, R56,
R65). A memory word decodes to the operation its address selects; the addresses of the first two octants
are RAM, of which the operand cut keeps the low 13 bits; an aligned BANK makes the OR of R56 a
concatenation; and every unused port read ends in `unusedPortRead`. -/

namespace Sys2Proof

/-! ### The words of memory space (30_encoding.md R81, R83) -/

/-- The packing of R81 with `V = 0` and `IO = 0`: a read or a write by `W` alone. -/
def memoryWord (d : Byte) (wr : BitVec 1) (a : Addr) : TxnWord := d ++ 0#3 ++ 0#3 ++ 0#1 ++ wr ++ a

section Fields
variable (d : Byte) (wr : BitVec 1) (a : Addr)

@[simp] theorem fieldA_memoryWord : fieldA (memoryWord d wr a) = a := BitVec.extractLsb'_append_eq_right

@[simp] theorem fieldW_memoryWord : fieldW (memoryWord d wr a) = wr.getLsbD 0 := by
  simp only [fieldW, memoryWord, BitVec.getLsbD_append]; rfl

@[simp] theorem fieldIO_memoryWord : fieldIO (memoryWord d wr a) = false := by
  simp only [fieldIO, memoryWord, BitVec.getLsbD_append]; rfl

@[simp] theorem fieldSpare_memoryWord : fieldSpare (memoryWord d wr a) = 0#3 := by
  simp only [fieldSpare, memoryWord, BitVec.extractLsb'_append_eq_of_le, Nat.reduceLeDiff, Nat.reduceSub]
  exact BitVec.extractLsb'_append_eq_right

@[simp] theorem fieldD_memoryWord : fieldD (memoryWord d wr a) = d := by
  simp only [fieldD, memoryWord, BitVec.extractLsb'_append_eq_of_le, Nat.reduceLeDiff, Nat.reduceSub]
  exact BitVec.extractLsb'_eq_self

end Fields

theorem wordOf_mr (v : Variant) (a : Addr) : wordOf v (.mr a) = memoryWord 0#8 0#1 a := rfl

theorem wordOf_mw (v : Variant) (a : Addr) (d : Byte) : wordOf v (.mw a d) = memoryWord d 1#1 a := rfl

theorem decode_wordOf_mr (c : Ctx) (v : Variant) (a : Addr) :
    decode c (wordOf v (.mr a)) = .ok (selectMemRead c a) := by
  simp [wordOf_mr, decode, transactionOf, select]

theorem decode_wordOf_mw (c : Ctx) (v : Variant) (a : Addr) (d : Byte) :
    decode c (wordOf v (.mw a d)) = .ok (selectMemWrite c a d) := by
  simp [wordOf_mw, decode, transactionOf, select]

/-- The addresses below 0x4000 are the first two octants. -/
theorem octant_eq_zero_or_one {a : Addr} (h : a.toNat < 0x4000) : octant a = 0#3 ∨ octant a = 1#3 := by
  have hoct : (octant a).toNat = a.toNat / 0x2000 := by
    rw [octant, BitVec.extractLsb'_toNat, Nat.shiftRight_eq_div_pow]
    omega
  rw [← BitVec.toNat_inj, ← BitVec.toNat_inj, hoct]
  simp only [BitVec.toNat_ofNat]
  omega

theorem selectMemRead_ram (c : Ctx) {a : Addr} (h : a.toNat < 0x4000) : selectMemRead c a = .mrRam a :=
  if_pos (octant_eq_zero_or_one h)

theorem selectMemWrite_ram (c : Ctx) {a : Addr} (d : Byte) (h : a.toNat < 0x4000) :
    selectMemWrite c a d = .mwRam a d :=
  if_pos (octant_eq_zero_or_one h)

end Sys2Proof

namespace Sys2Proof.Machine

/-! ### Local RAM (40_memdecode.md R111, R112) -/

variable {s : State} {c : Nat}

theorem exec_mrRam (h : RunningAt s c) (a : Addr) :
    exec (.mrRam a) s = .next (s.setRet (some (ramByte s (ramOffset a)))) :=
  running_of_runningAt s c _ h

theorem exec_mwRam (h : RunningAt s c) (a : Addr) (d : Byte) :
    exec (.mwRam a d) s = .next ((s.writeRam (ramOffset a) d).setRet none) :=
  running_of_runningAt s c _ h

/-- `a & 0x1FFF` fixes the offset (R82), so the mirrors of a byte share it. -/
theorem ramOffset_mirror (a : Addr) : ramOffset (a &&& 0x1FFF#16) = ramOffset a := by
  have hmask : (0x1FFF#16).extractLsb' 0 13 = BitVec.allOnes 13 := by decide
  rw [ramOffset, BitVec.extractLsb'_and, hmask, BitVec.and_allOnes, ramOffset]

theorem step_mr_ram {a : Addr} {rest : List Input} (hrun : RunningAt s c) (ha : a.toNat < 0x4000)
    (hin : s.inbox = .txn (wordOf s.cfg.variant (.mr a)) :: rest) :
    step s = .next ((s.setInbox rest).setRet (some (ramByte s (ramOffset a)))) := by
  have hdec : decode s.ctx (wordOf s.cfg.variant (.mr a)) = .ok (.mrRam a) := by
    rw [decode_wordOf_mr, selectMemRead_ram _ ha]
  rw [step_txn_of_decode_ok s _ rest _ hin hdec]
  exact exec_mrRam (s := s.setInbox rest) hrun a

theorem step_mw_ram {a : Addr} {d : Byte} {rest : List Input} (hrun : RunningAt s c)
    (ha : a.toNat < 0x4000) (hin : s.inbox = .txn (wordOf s.cfg.variant (.mw a d)) :: rest) :
    step s = .next (((s.setInbox rest).writeRam (ramOffset a) d).setRet none) := by
  have hdec : decode s.ctx (wordOf s.cfg.variant (.mw a d)) = .ok (.mwRam a d) := by
    rw [decode_wordOf_mw, selectMemWrite_ram _ d ha]
  rw [step_txn_of_decode_ok s _ rest _ hin hdec]
  exact exec_mwRam (s := s.setInbox rest) hrun a d

/-! ### The banked-window combiner (20_memory.md R56) -/

/-- What the combiner takes of the address: its low 15 bits, with zeros above. -/
theorem zeroExtend_and_7FFF (a : Addr) :
    (a &&& 0x7FFF#16).zeroExtend 24 = 0#9 ++ a.extractLsb' 0 15 := by
  have hmask : a.toNat &&& 0x7FFF = a.toNat % 0x8000 := Nat.and_two_pow_sub_one_eq_mod a.toNat 15
  apply BitVec.eq_of_toNat_eq
  rw [BitVec.zeroExtend, BitVec.toNat_setWidth_of_le (by decide), BitVec.toNat_and,
    BitVec.toNat_append]
  simpa using hmask

/-- `EA(a) = { BANK[23:15], a[14:0] }` for an aligned BANK. -/
theorem effectiveAddress_eq_append {b : PAddr} (a : Addr) (hb : b.extractLsb' 0 15 = 0#15) :
    effectiveAddress b a = b.extractLsb' 15 9 ++ a.extractLsb' 0 15 := by
  have hbank : b = b.extractLsb' 15 9 ++ 0#15 :=
    (BitVec.extractLsb'_append_extractLsb' (w := 9) (len := 15) (x := b)).symm.trans (by rw [hb])
  calc effectiveAddress b a
      = b ||| (0#9 ++ a.extractLsb' 0 15) := by rw [effectiveAddress, zeroExtend_and_7FFF]
    _ = b.extractLsb' 15 9 ++ 0#15 ||| (0#9 ++ a.extractLsb' 0 15) := by rw [← hbank]
    _ = b.extractLsb' 15 9 ++ a.extractLsb' 0 15 := by
      rw [BitVec.or_append, BitVec.or_zero, BitVec.zero_or]

/-- Bit 15 of the address takes no part. -/
theorem effectiveAddress_xor_bit15 (b : PAddr) (a : Addr) :
    effectiveAddress b (a ^^^ 0x8000#16) = effectiveAddress b a := by
  have hbit : (0x8000#16).extractLsb' 0 15 = 0#15 := by decide
  rw [effectiveAddress, zeroExtend_and_7FFF, BitVec.extractLsb'_xor, hbit, BitVec.xor_zero,
    ← zeroExtend_and_7FFF, effectiveAddress]

/-- Nothing overlaps in the OR, so it is a sum. -/
theorem toNat_effectiveAddress {b : PAddr} (a : Addr) (hb : b.extractLsb' 0 15 = 0#15) :
    (effectiveAddress b a).toNat = b.toNat + a.toNat % 0x8000 := by
  have hlow : b.toNat % 0x8000 = 0 := by simpa [BitVec.extractLsb'_toNat] using congrArg BitVec.toNat hb
  have hlt : a.toNat % 0x8000 < 2 ^ 15 := Nat.mod_lt _ (by decide)
  rw [effectiveAddress_eq_append a hb, BitVec.toNat_append, BitVec.extractLsb'_toNat,
    BitVec.extractLsb'_toNat, Nat.shiftRight_zero, ← Nat.shiftLeft_add_eq_or_of_lt hlt,
    Nat.shiftRight_eq_div_pow, Nat.shiftLeft_eq]
  omega

/-! ### Unused port reads (48_fault_handlers.md R265) -/

theorem floats_iff (g : Cfg) :
    floats g = true ↔ (g.variant = .standard ∨ g.variant = .legacy) ∧ g.openBusFamily = true := by
  simp [floats]

/-- The floating byte (R266). -/
theorem unusedPortRead_of_floats (h : floats s.cfg = true) :
    unusedPortRead s = { s with
      calls := s.calls ++ [.copPc, .copPeek (Config.copPc s.seen - 1#16)]
      ret := some (Config.answer (s.noteCall .copPc).seen (.copPeek (Config.copPc s.seen - 1#16))) } := by
  rw [unusedPortRead, if_pos h, openBus_eq]

theorem unusedPortRead_of_not_floats (h : ¬ floats s.cfg = true) :
    unusedPortRead s = s.setRet (some 0xFF#8) := if_neg h

end Sys2Proof.Machine

open Sys2Proof Sys2Proof.Machine

/-- Settles O18: both steps are RAM operations, at one offset, which the write has set to `v`. -/
theorem ramMirroring : Obligations.RamMirroring := by
  intro s c a1 a2 v rest hrun h1 h2 hmirror hin
  have hoffset : ramOffset a2 = ramOffset a1 := by
    rw [← ramOffset_mirror a2, ← hmirror, ramOffset_mirror]
  refine ⟨_, step_mw_ram hrun h1 hin, rfl, fun u c' rest' hrun' hkept hin' =>
    ⟨_, step_mr_ram hrun' h2 hin', ?_, rfl⟩⟩
  have hwrite : ramByte (((s.setInbox rest).writeRam (ramOffset a1) v).setRet none) (ramOffset a1) = v :=
    (ramByte_writeRam (s.setInbox rest) _ _ v).trans (if_pos rfl)
  calc some (ramByte u (ramOffset a2))
      = some (ramByte u (ramOffset a1)) := by rw [hoffset]
    _ = some v := congrArg some (hkept.trans hwrite)

/-- Settles O26: for an aligned BANK the combiner is a concatenation, of which the parts are read off. -/
theorem bankMath : Obligations.BankMath := by
  intro b a hb
  refine ⟨?_, ?_, ?_, toNat_effectiveAddress a hb, (effectiveAddress_xor_bit15 b a).symm⟩
  · exact congrArg (b ||| ·) (BitVec.setWidth_eq_append (by decide))
  · rw [effectiveAddress_eq_append a hb]; exact BitVec.extractLsb'_append_eq_right
  · rw [effectiveAddress_eq_append a hb]; exact BitVec.extractLsb'_append_eq_left

/-- Settles O46: each of the five operations ends in `unusedPortRead`, which asks the coprocessor exactly in
the sessions that float. -/
theorem unusedPortReadsMayFloat : Obligations.UnusedPortReadsMayFloat := by
  intro s p i hi
  have hexec : exec i s = .next (unusedPortRead s) := by
    obtain rfl | ⟨c, hrun, rfl | rfl | rfl | rfl⟩ := hi
    · rfl
    all_goals exact running_of_runningAt s c _ hrun
  rw [hexec, ← floats_iff]
  exact ⟨fun hfloat => congrArg _ (unusedPortRead_of_floats hfloat),
    fun hfloat => congrArg _ (unusedPortRead_of_not_floats hfloat)⟩

end

section
/-! PROOFS. The words of a session (30_encoding.md R80, R81, R88). The decoder accepts a word exactly if it is
`OfSession`, and then answers what the tables select for the word's transaction (`decode_eq_ok_iff`). The
selected operation carries that transaction, its port operand cut to 8 bits, so encoding gives the word of
the same transaction (`encode_select`). -/

namespace Sys2Proof

/-! ### The words of port space (30_encoding.md R81, R84) -/

@[simp] theorem fieldV_memoryWord (d : Byte) (wr : BitVec 1) (a : Addr) :
    fieldV (memoryWord d wr a) = 0#3 := by
  simp only [fieldV, memoryWord, BitVec.extractLsb'_append_eq_of_le, Nat.reduceLeDiff, Nat.reduceSub]
  exact BitVec.extractLsb'_append_eq_right

/-- The packing of R81 with the variant in `V` and `IO = 1`: a read or a write by `W`
alone. -/
def portWord (d : Byte) (v : Variant) (wr : BitVec 1) (a : Addr) : TxnWord :=
  d ++ 0#3 ++ variantCode v ++ 1#1 ++ wr ++ a

section Fields
variable (d : Byte) (v : Variant) (wr : BitVec 1) (a : Addr)

@[simp] theorem fieldA_portWord : fieldA (portWord d v wr a) = a :=
  BitVec.extractLsb'_append_eq_right

@[simp] theorem fieldW_portWord : fieldW (portWord d v wr a) = wr.getLsbD 0 := by
  simp only [fieldW, portWord, BitVec.getLsbD_append]; rfl

@[simp] theorem fieldIO_portWord : fieldIO (portWord d v wr a) = true := by
  simp only [fieldIO, portWord, BitVec.getLsbD_append]; rfl

@[simp] theorem fieldV_portWord : fieldV (portWord d v wr a) = variantCode v := by
  simp only [fieldV, portWord, BitVec.extractLsb'_append_eq_of_le, Nat.reduceLeDiff, Nat.reduceSub]
  exact BitVec.extractLsb'_append_eq_right

@[simp] theorem fieldSpare_portWord : fieldSpare (portWord d v wr a) = 0#3 := by
  simp only [fieldSpare, portWord, BitVec.extractLsb'_append_eq_of_le, Nat.reduceLeDiff, Nat.reduceSub]
  exact BitVec.extractLsb'_append_eq_right

@[simp] theorem fieldD_portWord : fieldD (portWord d v wr a) = d := by
  simp only [fieldD, portWord, BitVec.extractLsb'_append_eq_of_le, Nat.reduceLeDiff, Nat.reduceSub]
  exact BitVec.extractLsb'_eq_self

end Fields

theorem wordOf_pr (v : Variant) (port : BitVec 16) :
    wordOf v (.pr port) = portWord 0#8 v 0#1 (0#8 ++ portNumber port) := BitVec.append_assoc

theorem wordOf_pw (v : Variant) (port : BitVec 16) (d : Byte) :
    wordOf v (.pw port d) = portWord d v 1#1 (0#8 ++ portNumber port) := BitVec.append_assoc

/-! ### The port operand cut to 8 bits (42_port_common.md R168) -/

@[simp] theorem portNumber_zero_append (p : Port) : portNumber (0#8 ++ p) = p :=
  BitVec.extractLsb'_append_eq_right

/-- The transaction with its port operand, if it has one, cut to the port number. -/
def Transaction.cutPort (t : Transaction) : Transaction :=
  match t with
  | .pr port => .pr (0#8 ++ portNumber port)
  | .pw port d => .pw (0#8 ++ portNumber port) d
  | t => t

theorem select_cutPort (c : Ctx) (t : Transaction) : select c t.cutPort = select c t := by
  cases t <;> simp [Transaction.cutPort, select]

theorem wordOf_cutPort (v : Variant) (t : Transaction) : wordOf v t.cutPort = wordOf v t := by
  cases t <;> simp [Transaction.cutPort, wordOf]

/-- A word holds its transaction but for what the packing ignores. -/
theorem transactionOf_wordOf (v : Variant) (t : Transaction) : transactionOf (wordOf v t) = t.cutPort := by
  cases t <;> simp [wordOf_mr, wordOf_mw, wordOf_pr, wordOf_pw, transactionOf, Transaction.cutPort]

/-! ### The words of a session -/

theorem variantOfCode_eq_some_iff (n : BitVec 3) (v : Variant) :
    variantOfCode n = some v ↔ n = variantCode v := by
  revert n; cases v <;> decide

theorem variantOfCode_eq_none {n : BitVec 3} (h : 5 ≤ n.toNat) : variantOfCode n = none := by
  revert n; decide

/-- A word of the session: no bit above `TW`, and a port word names the session's variant. -/
structure OfSession (c : Ctx) (w : TxnWord) : Prop where
  spare : fieldSpare w = 0#3
  code : fieldIO w = true → fieldV w = variantCode c.cfg.variant

theorem ofSession_wordOf (c : Ctx) (t : Transaction) : OfSession c (wordOf c.cfg.variant t) := by
  cases t <;> constructor <;> simp [wordOf_mr, wordOf_mw, wordOf_pr, wordOf_pw]

/-- The decoder accepts the words of the session, and reads the operation that the table selects. -/
theorem decode_eq_ok_iff (c : Ctx) (w : TxnWord) (i : Instr) :
    decode c w = .ok i ↔ OfSession c w ∧ i = select c (transactionOf w) := by
  constructor
  · intro h
    refine ⟨?_, eq_select_of_decode_ok c w i h⟩
    unfold decode at h
    split at h
    · cases h
    next hspare =>
      refine ⟨not_not.mp hspare, fun hio => ?_⟩
      rw [if_neg (by simp [hio])] at h
      split at h
      · cases h
      next v hv =>
        split at h
        next hvariant => rw [← hvariant]; exact (variantOfCode_eq_some_iff _ v).mp hv
        next => cases h
  · rintro ⟨⟨hspare, hcode⟩, rfl⟩
    cases hio : fieldIO w with
    | false => simp [decode, hspare, hio]
    | true => simp [decode, hspare, hio, (variantOfCode_eq_some_iff _ _).mpr (hcode hio)]

theorem decode_wordOf (c : Ctx) (t : Transaction) :
    decode c (wordOf c.cfg.variant t) = .ok (select c t) := by
  rw [decode_eq_ok_iff, transactionOf_wordOf, select_cutPort]
  exact ⟨ofSession_wordOf c t, rfl⟩

/-! ### The transaction an operation carries -/

theorem transactionFor_selectMemRead (c : Ctx) (a : Addr) :
    transactionFor (selectMemRead c a) = some (.mr a) := by
  fun_cases selectMemRead c a <;> rfl

theorem transactionFor_selectMemWrite (c : Ctx) (a : Addr) (d : Byte) :
    transactionFor (selectMemWrite c a d) = some (.mw a d) := by
  fun_cases selectMemWrite c a d <;> rfl

theorem transactionFor_standardDefaultRead (c : Ctx) (p : Port) :
    transactionFor (standardDefaultRead c p) = some (.pr (0#8 ++ p)) := by
  fun_cases standardDefaultRead c p <;> rfl

theorem transactionFor_standardDefaultWrite (c : Ctx) (p : Port) (d : Byte) :
    transactionFor (standardDefaultWrite c p d) = some (.pw (0#8 ++ p) d) := by
  fun_cases standardDefaultWrite c p d <;> rfl

theorem transactionFor_selectPortRead (c : Ctx) (p : Port) :
    transactionFor (selectPortRead c p) = some (.pr (0#8 ++ p)) := by
  fun_cases selectPortRead c p
  case case1 => fun_cases primaryRead c p <;> rfl
  case case2 => fun_cases handheldRead c p <;> rfl
  case case3 =>
    fun_cases standardRead c p
    case case5 => exact transactionFor_standardDefaultRead c p
    all_goals rfl
  case case4 => fun_cases legacyRead c p <;> rfl
  case case5 => fun_cases firstGenRead p <;> rfl

theorem transactionFor_selectPortWrite (c : Ctx) (p : Port) (d : Byte) :
    transactionFor (selectPortWrite c p d) = some (.pw (0#8 ++ p) d) := by
  fun_cases selectPortWrite c p d
  case case1 => fun_cases primaryWrite c p d <;> rfl
  case case2 => fun_cases handheldWrite c p d <;> rfl
  case case3 =>
    fun_cases standardWrite c p d
    case case6 => exact transactionFor_standardDefaultWrite c p d
    all_goals rfl
  case case4 => fun_cases legacyWrite c p d <;> rfl
  case case5 => fun_cases firstGenWrite p d <;> rfl

/-- No table loses an operand: the selected operation carries the transaction. -/
theorem transactionFor_select (c : Ctx) (t : Transaction) :
    transactionFor (select c t) = some t.cutPort := by
  cases t with
  | mr a => exact transactionFor_selectMemRead c a
  | mw a d => exact transactionFor_selectMemWrite c a d
  | pr port => exact transactionFor_selectPortRead c (portNumber port)
  | pw port d => exact transactionFor_selectPortWrite c (portNumber port) d

theorem encode_select (c : Ctx) (t : Transaction) :
    encode c (select c t) = some (wordOf c.cfg.variant t) := by
  rw [encode, transactionFor_select, Option.map_some, wordOf_cutPort]

end Sys2Proof

namespace Sys2Proof.Machine

variable {s : State}

/-- A running block performs every operation: the video window needs a Delegate to forward to (R115), and
nothing else is asked of the state (60_exceptions.md R280). -/
theorem exec_completes {c : Nat} {h : Handler} (hrun : RunningAt s c) (hvid : videoEntry s = .delegate h)
    (i : Instr) : ∃ t, exec i s = .next t := by
  cases i with
  | mrVid a => exact ⟨_, (whenRunning_of_runningAt s c _ hrun).trans (by rw [hvid])⟩
  | mwVid a d => exact ⟨_, (whenRunning_of_runningAt s c _ hrun).trans (by rw [hvid])⟩
  | umr | umw | lkr | lkw | upr | upw => exact ⟨_, rfl⟩
  | _ => exact ⟨_, running_of_runningAt s c _ hrun⟩

theorem Performs.inbox {i : Instr} {t : State} (h : Performs i s t) : t.inbox = s.inbox := by
  obtain ⟨u, hu, hwrite⟩ := h
  rw [hwrite.frame]
  exact hu.inbox

end Sys2Proof.Machine

open Sys2Proof Sys2Proof.Machine

/-- Settles O2: the operation carries the word's own transaction, whose packing gives the fields back. -/
theorem encodingKeepsEveryFieldOfTheWord : Obligations.EncodingKeepsEveryFieldOfTheWord := by
  intro c w i hdec
  obtain ⟨⟨hspare, hcode⟩, rfl⟩ := (decode_eq_ok_iff c w i).mp hdec
  refine ⟨_, encode_select c _, ?_⟩
  fun_cases transactionOf w <;>
    simp_all [wordOf_mr, wordOf_mw, wordOf_pr, wordOf_pw, portNumber]

/-- Settles O4: the packing gives the transaction back but for the cut of the port operand, which neither the
tables nor the packing see. -/
theorem everyTransactionDecodes : Obligations.EveryTransactionDecodes := by
  intro c t
  exact ⟨decode_wordOf c t, fun port d =>
    ⟨(wordOf_cutPort c.cfg.variant (.pr port)).symm, (wordOf_cutPort c.cfg.variant (.pw port d)).symm⟩⟩

/-- Settles O5: the decoder accepts the words of the session; codes 5 to 7 name no variant. -/
theorem decodeRefusesOnlyForeignWords : Obligations.DecodeRefusesOnlyForeignWords := by
  intro c w
  refine ⟨⟨?_, ?_⟩, ?_⟩
  · rintro ⟨i, hdec⟩
    obtain ⟨⟨hspare, hcode⟩, -⟩ := (decode_eq_ok_iff c w i).mp hdec
    exact ⟨hspare, hcode⟩
  · rintro ⟨hspare, hcode⟩
    exact ⟨_, (decode_eq_ok_iff c w _).mpr ⟨⟨hspare, hcode⟩, rfl⟩⟩
  · intro hspare hio hv
    simp [decode, hspare, hio, variantOfCode_eq_none hv]

/-- Settles O13: the word decodes, every operation completes, and none touches the queue. -/
theorem noTransactionOfARunningBlockIsRefused : Obligations.NoTransactionOfARunningBlockIsRefused := by
  intro s t rest c h hrun hvid hin
  have hstep := step_txn_of_decode_ok s _ rest _ hin (decode_wordOf s.ctx t)
  obtain ⟨u, hu⟩ := exec_completes (s := s.setInbox rest) hrun hvid (select s.ctx t)
  exact ⟨u, hstep.trans hu, (performs_of_exec_next _ _ _ hu).inbox⟩

/-- Settles O7: the decoder computes on the written-out words. -/
theorem sampleWordsDecode : Obligations.SampleWordsDecode := by
  refine ⟨fun v => ?_, rfl, rfl, rfl, rfl, rfl, rfl, rfl, rfl⟩
  cases v <;> rfl

end

section
/-! PROOFS. The decode tables against the rules' own conditions (30_encoding.md R83, R85, R86, R92), which
`WellFormed` states apart from the decoder. The masks of the rules are buckets and octants; in these terms
what a table selects is well-formed (`wellFormed_select`), and a well-formed operation is the one selected
for the transaction it carries (`map_select_transactionFor`). -/

namespace Sys2Proof

/-! ### The masks of the port rules -/

section Buckets
variable (p : Port)

theorem bucket_eq : bucket p =
    if p.toNat < 0x40 then .b00
    else if p.toNat < 0x80 then .b40
    else if p.toNat < 0xC0 then (if p.toNat % 2 = 0 then .vdata else .vctrl)
    else .dflt := by
  revert p; decide

@[simp] theorem and_C0_eq_00_iff : p &&& 0xC0#8 = 0x00#8 ↔ bucket p = .b00 := by revert p; decide
@[simp] theorem and_C0_eq_40_iff : p &&& 0xC0#8 = 0x40#8 ↔ bucket p = .b40 := by revert p; decide
@[simp] theorem and_C1_eq_80_iff : p &&& 0xC1#8 = 0x80#8 ↔ bucket p = .vdata := by revert p; decide
@[simp] theorem and_C1_eq_81_iff : p &&& 0xC1#8 = 0x81#8 ↔ bucket p = .vctrl := by revert p; decide
@[simp] theorem and_C0_eq_C0_iff : p &&& 0xC0#8 = 0xC0#8 ↔ bucket p = .dflt := by revert p; decide
@[simp] theorem and_F0_eq_F0_iff : p &&& 0xF0#8 = 0xF0#8 ↔ 0xF0 ≤ p.toNat := by revert p; decide
@[simp] theorem and_FE_eq_3E_iff : p &&& 0xFE#8 = 0x3E#8 ↔ p = 0x3E#8 ∨ p = 0x3F#8 := by
  revert p; decide

end Buckets

variable {p : Port}

theorem bucket_of_F0_le (h : 0xF0 ≤ p.toNat) : bucket p = .dflt := by
  rw [bucket_eq, if_neg (by omega), if_neg (by omega), if_neg (by omega)]

theorem bucket_of_pair (h : p = 0x3E#8 ∨ p = 0x3F#8) : bucket p = .b00 := by
  obtain rfl | rfl := h <;> rfl

theorem ne_pair_of_lt (h : p.toNat < 0x07) : p ≠ 0x3E#8 ∧ p ≠ 0x3F#8 := by
  constructor <;> rintro rfl <;> exact absurd h (by decide)

/-- `AUDIOCTL_PORT` is 0xF2 (00_scope.md R7). -/
theorem bucket_audioctlPort {q : Prm} (h : q.Admissible) : bucket q.audioctlPort = .dflt := by
  obtain ⟨-, -, -, -, -, -, -, haudio, -⟩ := h
  rw [haudio]; rfl

theorem ne_audioctlPort_of_mem {q : Prm} (h : q.Admissible) (hp : p ∈ q.tFmPorts) :
    p ≠ q.audioctlPort := by
  obtain ⟨-, -, -, -, -, -, hfm, -⟩ := h
  exact (hfm p hp).2

/-! ### The regions of memory space -/

section Regions
variable (a : Addr)

theorem toNat_octant : (octant a).toNat = a.toNat / 0x2000 := by
  rw [octant, BitVec.extractLsb'_toNat, Nat.shiftRight_eq_div_pow]
  omega

theorem toNat_pageByte : (pageByte a).toNat = a.toNat / 0x100 := by
  rw [pageByte, BitVec.extractLsb'_toNat, Nat.shiftRight_eq_div_pow]
  omega

theorem octant_eq_iff (k : BitVec 3) :
    octant a = k ↔ k.toNat * 0x2000 ≤ a.toNat ∧ a.toNat < (k.toNat + 1) * 0x2000 := by
  rw [← BitVec.toNat_inj, toNat_octant]
  omega

theorem extractLsb'_13_3 : a.extractLsb' 13 3 = octant a := rfl

theorem extractLsb'_8_8 : a.extractLsb' 8 8 = pageByte a := rfl

theorem extractLsb'_14_2_eq_zero_iff : a.extractLsb' 14 2 = 0b00#2 ↔ octant a = 0#3 ∨ octant a = 1#3 := by
  simp only [← BitVec.toNat_inj, toNat_octant, BitVec.extractLsb'_toNat, Nat.shiftRight_eq_div_pow,
    BitVec.toNat_ofNat]
  omega

theorem getLsbD_15_iff_le : a.getLsbD 15 = true ↔ 0x8000 ≤ a.toNat := by
  rw [← BitVec.msb_eq_getLsbD_last, BitVec.msb_eq_decide]
  simp

theorem getLsbD_15_iff :
    a.getLsbD 15 = true ↔ ¬ (octant a = 0#3 ∨ octant a = 1#3) ∧ octant a ≠ 2#3 ∧ octant a ≠ 3#3 := by
  simp only [getLsbD_15_iff_le, ne_eq, ← BitVec.toNat_inj, toNat_octant, BitVec.toNat_ofNat]
  omega

end Regions

variable {c : Ctx} {a : Addr} (d : Byte)

/-- Both pages that the parameters name lie in Region C (00_scope.md R7). -/
theorem octant_of_pageByte {b : Byte} (hb : 0x60 ≤ b.toNat ∧ b.toNat ≤ 0x7F) (h : pageByte a = b) :
    octant a = 3#3 := by
  have hpage := toNat_pageByte a
  rw [h] at hpage
  rw [octant_eq_iff, BitVec.toNat_ofNat]
  omega

theorem selectMemRead_of_octant_two (h : octant a = 2#3) : selectMemRead c a = .mrSnd a := by
  simp [selectMemRead, h]

theorem selectMemWrite_of_octant_two (h : octant a = 2#3) : selectMemWrite c a d = .mwSnd a d := by
  simp [selectMemWrite, h]

theorem selectMemRead_of_octant_three (h : octant a = 3#3) :
    selectMemRead c a = if pageByte a = c.prm.vselByte then .mrVid a else .mrCunused a := by
  simp [selectMemRead, h]

theorem selectMemWrite_of_octant_three (h : octant a = 3#3) :
    selectMemWrite c a d =
      if pageByte a = c.prm.vselByte then .mwVid a d
      else if pageByte a = c.prm.bselByte then .mwBsel a d
      else .mwCunused a d := by
  simp [selectMemWrite, h]

theorem selectMemRead_of_bit15 (h : a.getLsbD 15 = true) : selectMemRead c a = .mrBank a := by
  obtain ⟨h01, h2, h3⟩ := (getLsbD_15_iff a).mp h
  rw [selectMemRead, if_neg h01, if_neg h2, if_neg h3]

theorem selectMemWrite_of_bit15 (h : a.getLsbD 15 = true) : selectMemWrite c a d = .mwBank a d := by
  obtain ⟨h01, h2, h3⟩ := (getLsbD_15_iff a).mp h
  rw [selectMemWrite, if_neg h01, if_neg h2, if_neg h3]

/-! ### What a table selects is well-formed -/

theorem wellFormed_selectMemRead (c : Ctx) (a : Addr) : WellFormed c (selectMemRead c a) = true := by
  fun_cases selectMemRead c a <;>
    simp_all [WellFormed, extractLsb'_14_2_eq_zero_iff, getLsbD_15_iff, extractLsb'_13_3, extractLsb'_8_8]

theorem wellFormed_selectMemWrite (c : Ctx) (a : Addr) (d : Byte) :
    WellFormed c (selectMemWrite c a d) = true := by
  fun_cases selectMemWrite c a d <;>
    simp_all [WellFormed, extractLsb'_14_2_eq_zero_iff, getLsbD_15_iff, extractLsb'_13_3, extractLsb'_8_8]

section Ports
variable (p)

theorem wellFormed_standardDefaultRead (h : c.prm.Admissible) (hv : c.cfg.variant = .standard)
    (hb : bucket p = .dflt) : WellFormed c (standardDefaultRead c p) = true := by
  have haudio := ne_audioctlPort_of_mem (p := p) h
  fun_cases standardDefaultRead c p <;> simp_all [WellFormed]

theorem wellFormed_standardDefaultWrite (hv : c.cfg.variant = .standard) (hb : bucket p = .dflt) :
    WellFormed c (standardDefaultWrite c p d) = true := by
  fun_cases standardDefaultWrite c p d <;> simp_all [WellFormed]

theorem wellFormed_selectPortRead (h : c.prm.Admissible) : WellFormed c (selectPortRead c p) = true := by
  fun_cases selectPortRead c p
  case case1 => fun_cases primaryRead c p <;> simp_all [WellFormed]
  case case2 => fun_cases handheldRead c p <;> simp_all [WellFormed]
  case case3 hv =>
    fun_cases standardRead c p
    case case5 hb => exact wellFormed_standardDefaultRead p h hv hb
    all_goals simp_all [WellFormed]
  case case4 => fun_cases legacyRead c p <;> simp_all [WellFormed]
  case case5 => fun_cases firstGenRead p <;> simp_all [WellFormed]

theorem wellFormed_selectPortWrite : WellFormed c (selectPortWrite c p d) = true := by
  fun_cases selectPortWrite c p d
  case case1 => fun_cases primaryWrite c p d <;> simp_all [WellFormed]
  case case2 => fun_cases handheldWrite c p d <;> simp_all [WellFormed]
  case case3 hv =>
    fun_cases standardWrite c p d
    case case6 hb => exact wellFormed_standardDefaultWrite p d hv hb
    case case2 => simp_all [WellFormed, or_iff_not_imp_left]
    all_goals simp_all [WellFormed]
  case case4 => fun_cases legacyWrite c p d <;> simp_all [WellFormed]
  case case5 => fun_cases firstGenWrite p d <;> simp_all [WellFormed]

end Ports

theorem wellFormed_select (h : c.prm.Admissible) (t : Transaction) : WellFormed c (select c t) = true := by
  cases t with
  | mr a => exact wellFormed_selectMemRead c a
  | mw a d => exact wellFormed_selectMemWrite c a d
  | pr port => exact wellFormed_selectPortRead _ h
  | pw port d => exact wellFormed_selectPortWrite _ d

/-! ### A well-formed operation is the one selected -/

@[simp] theorem select_pr (c : Ctx) (p : Port) : select c (.pr (0#8 ++ p)) = selectPortRead c p := by
  simp [select]

@[simp] theorem select_pw (c : Ctx) (p : Port) (d : Byte) :
    select c (.pw (0#8 ++ p) d) = selectPortWrite c p d := by
  simp [select]

/-- The condition of an operation's rule leads each table to that operation: in memory space by octant and
page, in port space by variant and bucket. -/
theorem map_select_transactionFor (h : c.prm.Admissible) {i : Instr} (hw : WellFormed c i = true) :
    (transactionFor i).map (select c) = some i := by
  have haudio := bucket_audioctlPort h
  have hfm := fun q => ne_audioctlPort_of_mem (p := q) h
  obtain ⟨hvsel, hbsel, hne, -⟩ := h
  cases i <;> simp only [WellFormed, decide_eq_true_eq] at hw
  case mrRam a | mwRam a d => exact congrArg some (if_pos ((extractLsb'_14_2_eq_zero_iff a).mp hw))
  case mrSnd a => exact congrArg some (selectMemRead_of_octant_two hw)
  case mwSnd a d => exact congrArg some (selectMemWrite_of_octant_two d hw)
  case mrVid a =>
    exact congrArg some ((selectMemRead_of_octant_three (octant_of_pageByte hvsel hw)).trans (if_pos hw))
  case mwVid a d =>
    exact congrArg some ((selectMemWrite_of_octant_three d (octant_of_pageByte hvsel hw)).trans (if_pos hw))
  case mwBsel a d =>
    have hpage : pageByte a = c.prm.bselByte := hw
    refine congrArg some ((selectMemWrite_of_octant_three d (octant_of_pageByte hbsel hw)).trans ?_)
    rw [hpage, if_neg hne.symm, if_pos rfl]
  case mrCunused a =>
    obtain ⟨hoct, hvid⟩ := hw
    exact congrArg some ((selectMemRead_of_octant_three hoct).trans (if_neg hvid))
  case mwCunused a d =>
    obtain ⟨hoct, hvid, hbank⟩ := hw
    exact congrArg some
      ((selectMemWrite_of_octant_three d hoct).trans ((if_neg hvid).trans (if_neg hbank)))
  case mrBank a => exact congrArg some (selectMemRead_of_bit15 hw)
  case mwBank a d => exact congrArg some (selectMemWrite_of_bit15 d hw)
  case prVdata | pwVdata | prVctrl | pwVctrl | pwSgen | prHv =>
    cases hv : c.cfg.variant <;>
      simp_all [transactionFor, selectPortRead, selectPortWrite, primaryRead, primaryWrite, handheldRead,
        handheldWrite, standardRead, standardWrite, legacyRead, legacyWrite, firstGenRead, firstGenWrite]
  case pw0Per | pr0B00 | pr0Hv | pr0Fm | pw0Fm | pr0Def | pw0Def =>
    simp_all [transactionFor, selectPortRead, selectPortWrite, primaryRead, primaryWrite, bucket_of_F0_le]
  case pr1Hio | pw1Hio | pr1Per3E | pw1Per3E | pr1B00 | pw1B00 | pr1Def | pw1Def =>
    simp_all [transactionFor, selectPortRead, selectPortWrite, handheldRead, handheldWrite, bucket_of_pair,
      ne_pair_of_lt]
  case pw2Per =>
    obtain ⟨hv, hb, hT | hpair⟩ := hw <;> simp_all [transactionFor, selectPortWrite, standardWrite]
  case pw2B00 | pr2B00 | pr2Tfm | pw2Tfm | pw2Actl | pr2Xfm | pw2Xfm | pr2Perg | pr2Def | pw2Def =>
    simp_all [transactionFor, selectPortRead, selectPortWrite, standardRead, standardWrite,
      standardDefaultRead, standardDefaultWrite]
  case pr3B00 | pw3B00 | pr3Fm | pw3Fm | pr3Def | pw3Def | pr3Per | pw3Per =>
    simp_all [transactionFor, selectPortRead, selectPortWrite, legacyRead, legacyWrite]
  case pr4B00 | pw4B00 | pr4B40 | pw4Sgen | pr4Vctrl | pw4Vctrl | pr4Per | pw4Def =>
    simp_all [transactionFor, selectPortRead, selectPortWrite, firstGenRead, firstGenWrite]

end Sys2Proof

namespace Sys2Proof.Machine

variable {s : State} {a : Addr} {d : Byte} {i j : Instr}

theorem selects_memory (hread : selectMemRead s.ctx a = i) (hwrite : selectMemWrite s.ctx a d = j) :
    Selects s (.mr a) i ∧ Selects s (.mw a d) j :=
  ⟨hread ▸ decode_wordOf s.ctx (.mr a), hwrite ▸ decode_wordOf s.ctx (.mw a d)⟩

end Sys2Proof.Machine

open Sys2Proof Sys2Proof.Machine

/-- Settles O1: the operation's own transaction encodes it, decodes, and selects it again. -/
theorem decodeReadsBackEveryEncoding : Obligations.DecodeReadsBackEveryEncoding := by
  intro c i hadm hwf
  obtain ⟨t, ht, hselect⟩ := Option.map_eq_some_iff.mp (map_select_transactionFor hadm hwf)
  exact ⟨wordOf c.cfg.variant t, by rw [encode, ht, Option.map_some], by rw [decode_wordOf, hselect]⟩

/-- Settles O3: the decoder answers what a table selects. -/
theorem decodedOperationIsWellFormed : Obligations.DecodedOperationIsWellFormed := by
  intro c w i hadm hdec
  rw [eq_select_of_decode_ok c w i hdec]
  exact wellFormed_select hadm _

/-- Settles O8: the address ranges are octants, and Region C is split by the page. -/
theorem memoryDecodeMap : Obligations.MemoryDecodeMap := by
  intro s a d hne
  have hC (hlo : 0x6000 ≤ a.toNat) (hhi : a.toNat < 0x8000) : octant a = 3#3 :=
    (octant_eq_iff a 3#3).mpr ⟨hlo, hhi⟩
  refine ⟨fun h => ?_, fun ⟨hlo, hhi⟩ => ?_, fun ⟨hlo, hhi, hvid⟩ => ?_, fun ⟨hlo, hhi, hbank⟩ => ?_,
    fun ⟨hlo, hhi, hvid, hbank⟩ => ?_, fun h => ?_⟩
  · exact selects_memory (selectMemRead_ram _ h) (selectMemWrite_ram _ d h)
  · have hB : octant a = 2#3 := (octant_eq_iff a 2#3).mpr ⟨hlo, hhi⟩
    exact selects_memory (selectMemRead_of_octant_two hB) (selectMemWrite_of_octant_two d hB)
  · exact selects_memory ((selectMemRead_of_octant_three (hC hlo hhi)).trans (if_pos hvid))
      ((selectMemWrite_of_octant_three d (hC hlo hhi)).trans (if_pos hvid))
  · have hvid : ¬ pageByte a = s.prm.vselByte := fun h => hne (h.symm.trans hbank)
    exact selects_memory ((selectMemRead_of_octant_three (hC hlo hhi)).trans (if_neg hvid))
      ((selectMemWrite_of_octant_three d (hC hlo hhi)).trans ((if_neg hvid).trans (if_pos hbank)))
  · exact selects_memory ((selectMemRead_of_octant_three (hC hlo hhi)).trans (if_neg hvid))
      ((selectMemWrite_of_octant_three d (hC hlo hhi)).trans ((if_neg hvid).trans (if_neg hbank)))
  · have h15 := (getLsbD_15_iff_le a).mpr h
    exact selects_memory (selectMemRead_of_bit15 h15) (selectMemWrite_of_bit15 d h15)

/-- Settles O9: by evaluation at the 256 ports. -/
theorem portBucketMap : Obligations.PortBucketMap := bucket_eq

end

section
/-! PROOFS. The opcode table (30_encoding.md R91, R92). A word matches a row field by field; so, for a word
of the session, a row says of the word what the rule of its operation says of the operands (`IsRowOf`), and
of the 59 operations with the word's operands one is well-formed and carries the word's transaction: the
selected one. -/

namespace Sys2Proof

/-! ### Masking by fields -/

theorem extractLsb'_extractLsb' {m i n j len : Nat} (x : BitVec m) (h : j + len ≤ n) :
    (x.extractLsb' i n).extractLsb' j len = x.extractLsb' (i + j) len := by
  apply BitVec.eq_of_getLsbD_eq
  intro k hk
  have hlt : j + k < n := by omega
  simp [hk, hlt, Nat.add_assoc]

theorem ofBool_getLsbD {m : Nat} (x : BitVec m) (i : Nat) :
    BitVec.ofBool (x.getLsbD i) = x.extractLsb' i 1 := by
  apply BitVec.eq_of_getLsbD_eq
  intro k hk
  obtain rfl : k = 0 := by omega
  simp

/-- The fields of bits 23 to 0 of a word, from the spare bits down, `A` in two bytes. -/
theorem eq_iff_fields (x y : BitVec 24) :
    x = y ↔
      x.extractLsb' 21 3 = y.extractLsb' 21 3 ∧ x.extractLsb' 18 3 = y.extractLsb' 18 3 ∧
      x.extractLsb' 17 1 = y.extractLsb' 17 1 ∧ x.extractLsb' 16 1 = y.extractLsb' 16 1 ∧
      x.extractLsb' 8 8 = y.extractLsb' 8 8 ∧ x.extractLsb' 0 8 = y.extractLsb' 0 8 := by
  constructor
  · rintro rfl; simp
  · rintro ⟨hspare, hv, hio, hwr, hpage, hport⟩
    have hjoin (z : BitVec 24) : z.extractLsb' 21 3 ++ z.extractLsb' 18 3 ++ z.extractLsb' 17 1 ++
        z.extractLsb' 16 1 ++ z.extractLsb' 8 8 ++ z.extractLsb' 0 8 = z := by
      apply BitVec.eq_of_getLsbD_eq
      intro i hi
      grind
    rw [← hjoin x, ← hjoin y, hspare, hv, hio, hwr, hpage, hport]

/-- `(TW & mask) = match`, field by field. -/
theorem and_mask_eq_iff {w : TxnWord} (hspare : fieldSpare w = 0#3) (mask pattern : BitVec 24) :
    w.extractLsb' 0 24 &&& mask = pattern ↔
      0#3 = pattern.extractLsb' 21 3 ∧
      fieldV w &&& mask.extractLsb' 18 3 = pattern.extractLsb' 18 3 ∧
      BitVec.ofBool (fieldIO w) &&& mask.extractLsb' 17 1 = pattern.extractLsb' 17 1 ∧
      BitVec.ofBool (fieldW w) &&& mask.extractLsb' 16 1 = pattern.extractLsb' 16 1 ∧
      (fieldA w).extractLsb' 8 8 &&& mask.extractLsb' 8 8 = pattern.extractLsb' 8 8 ∧
      tablePort w &&& mask.extractLsb' 0 8 = pattern.extractLsb' 0 8 := by
  have hzero : w.extractLsb' 21 3 = 0#3 := hspare
  rw [eq_iff_fields]
  simp only [BitVec.extractLsb'_and, extractLsb'_extractLsb', Nat.zero_add, fieldV, fieldIO, fieldW,
    tablePort, fieldA, ofBool_getLsbD, Nat.reduceAdd, Nat.reduceLeDiff, hzero, BitVec.zero_and]

/-- The fields of a pattern that is given by its three bytes, as those with a parameter are. -/
theorem extractLsb'_bytes (x y z : Byte) :
    BitVec.extractLsb' (n := 24) 21 3 (x ++ y ++ z) = x.extractLsb' 5 3 ∧
    BitVec.extractLsb' (n := 24) 18 3 (x ++ y ++ z) = x.extractLsb' 2 3 ∧
    BitVec.extractLsb' (n := 24) 17 1 (x ++ y ++ z) = x.extractLsb' 1 1 ∧
    BitVec.extractLsb' (n := 24) 16 1 (x ++ y ++ z) = x.extractLsb' 0 1 ∧
    BitVec.extractLsb' (n := 24) 8 8 (x ++ y ++ z) = y ∧
    BitVec.extractLsb' (n := 24) 0 8 (x ++ y ++ z) = z := by
  have hhigh (i len : Nat) (h : 16 ≤ i) :
      BitVec.extractLsb' (n := 24) i len (x ++ y ++ z) = x.extractLsb' (i - 8 - 8) len := by
    rw [BitVec.extractLsb'_append_eq_of_le (by omega), BitVec.extractLsb'_append_eq_of_le (by omega)]
  refine ⟨hhigh 21 3 (by decide), hhigh 18 3 (by decide), hhigh 17 1 (by decide),
    hhigh 16 1 (by decide), ?_, BitVec.extractLsb'_append_eq_right⟩
  rw [BitVec.extractLsb'_append_eq_of_le (by decide)]
  exact BitVec.extractLsb'_append_eq_right

@[simp] theorem ofBool_and_one_eq_one_iff (b : Bool) : BitVec.ofBool b &&& 1#1 = 1#1 ↔ b = true := by
  cases b <;> decide

@[simp] theorem ofBool_and_one_eq_zero_iff (b : Bool) : BitVec.ofBool b &&& 1#1 = 0#1 ↔ b = false := by
  cases b <;> decide

/-- A mask that keeps the whole field, as the numeral it is evaluated to. -/
@[simp] theorem and_seven (v : BitVec 3) : v &&& 7#3 = v := BitVec.and_allOnes

@[simp] theorem and_FF (v : Byte) : v &&& 0xFF#8 = v := BitVec.and_allOnes

theorem variantCode_eq_iff (v : Variant) (n : BitVec 3) : variantCode v = n ↔ some v = variantOfCode n := by
  rw [eq_comm, ← variantOfCode_eq_some_iff, eq_comm]

section Page
variable (a : Addr)

theorem page_and_C0_iff : a.extractLsb' 8 8 &&& 0xC0#8 = 0x00#8 ↔ a.extractLsb' 14 2 = 0b00#2 := by
  rw [← extractLsb'_extractLsb' (i := 8) (n := 8) a (by decide : 6 + 2 ≤ 8)]
  generalize a.extractLsb' 8 8 = page
  revert page; decide

theorem page_and_E0_eq_40_iff : a.extractLsb' 8 8 &&& 0xE0#8 = 0x40#8 ↔ a.extractLsb' 13 3 = 0b010#3 := by
  rw [← extractLsb'_extractLsb' (i := 8) (n := 8) a (by decide : 5 + 3 ≤ 8)]
  generalize a.extractLsb' 8 8 = page
  revert page; decide

theorem page_and_E0_eq_60_iff : a.extractLsb' 8 8 &&& 0xE0#8 = 0x60#8 ↔ a.extractLsb' 13 3 = 0b011#3 := by
  rw [← extractLsb'_extractLsb' (i := 8) (n := 8) a (by decide : 5 + 3 ≤ 8)]
  generalize a.extractLsb' 8 8 = page
  revert page; decide

theorem page_and_80_iff : a.extractLsb' 8 8 &&& 0x80#8 = 0x80#8 ↔ a.getLsbD 15 = true := by
  have h15 : a.getLsbD 15 = (a.extractLsb' 8 8).getLsbD 7 := by rw [BitVec.getLsbD_extractLsb']; rfl
  rw [h15]
  generalize a.extractLsb' 8 8 = page
  revert page; decide

end Page

/-! ### The transaction of a word -/

section Word
variable (w : TxnWord)

@[simp] theorem mr_eq_cutPort_iff (a : Addr) :
    .mr a = (transactionOf w).cutPort ↔ fieldIO w = false ∧ fieldW w = false ∧ a = fieldA w := by
  fun_cases transactionOf w <;> simp_all [Transaction.cutPort]

@[simp] theorem mw_eq_cutPort_iff (a : Addr) (d : Byte) :
    .mw a d = (transactionOf w).cutPort ↔
      fieldIO w = false ∧ fieldW w = true ∧ a = fieldA w ∧ d = fieldD w := by
  fun_cases transactionOf w <;> simp_all [Transaction.cutPort]

theorem zero_append_inj (p q : Port) : (0#8 ++ p : BitVec 16) = 0#8 ++ q ↔ p = q :=
  ⟨fun h => by simpa using congrArg portNumber h, fun h => by rw [h]⟩

theorem portNumber_fieldA : portNumber (fieldA w) = tablePort w := rfl

@[simp] theorem pr_eq_cutPort_iff (p : Port) :
    .pr (0#8 ++ p) = (transactionOf w).cutPort ↔
      fieldIO w = true ∧ fieldW w = false ∧ p = tablePort w := by
  fun_cases transactionOf w <;> simp_all [Transaction.cutPort, zero_append_inj, portNumber_fieldA]

@[simp] theorem pw_eq_cutPort_iff (p : Port) (d : Byte) :
    .pw (0#8 ++ p) d = (transactionOf w).cutPort ↔
      fieldIO w = true ∧ fieldW w = true ∧ p = tablePort w ∧ d = fieldD w := by
  fun_cases transactionOf w <;> simp_all [Transaction.cutPort, zero_append_inj, portNumber_fieldA]

end Word

/-! ### The rows and their operations -/

/-- `r` is the row of `i`: it has its name, and the word selects it exactly if `i` carries the word's
transaction and meets the conditions of its own rule. -/
def IsRowOf (c : Ctx) (w : TxnWord) (r : TableRow) (i : Instr) : Prop :=
  r.mnemonic = mnemonicOf i ∧
  (rowSelected w r = true ↔ transactionFor i = some (transactionOf w).cutPort ∧ WellFormed c i = true)

/-! The operations of each part of the table, in its order, with operands `a`, `p` and `d`. -/

section Operations
variable (a : Addr) (p : Port) (d : Byte)

def memoryOperations : List Instr :=
  [.mrRam a, .mwRam a d, .mrSnd a, .mwSnd a d, .mrVid a, .mwVid a d, .mwBsel a d, .mrCunused a,
    .mwCunused a d, .mrBank a, .mwBank a d]

def sharedOperations : List Instr :=
  [.prVdata p, .pwVdata p d, .prVctrl p, .pwVctrl p d, .pwSgen p d, .prHv p]

def primaryOperations : List Instr :=
  [.pw0Per p d, .pr0B00 p, .pr0Hv p, .pr0Fm p, .pw0Fm p d, .pr0Def p, .pw0Def p d]

def handheldOperations : List Instr :=
  [.pr1Hio p, .pw1Hio p d, .pr1Per3E p, .pw1Per3E p d, .pr1B00 p, .pw1B00 p d, .pr1Def p, .pw1Def p d]

def standardOperations : List Instr :=
  [.pw2Per p d, .pw2B00 p d, .pr2B00 p, .pr2Tfm p, .pw2Tfm p d, .pw2Actl p d, .pr2Xfm p, .pw2Xfm p d,
    .pr2Perg p, .pr2Def p, .pw2Def p d]

def legacyOperations : List Instr :=
  [.pr3B00 p, .pw3B00 p d, .pr3Fm p, .pw3Fm p d, .pr3Def p, .pw3Def p d, .pr3Per p, .pw3Per p d]

def firstGenOperations : List Instr :=
  [.pr4B00 p, .pw4B00 p d, .pr4B40 p, .pw4Sgen p d, .pr4Vctrl p, .pw4Vctrl p d, .pr4Per p, .pw4Def p d]

end Operations

/-- The operations of the table in its order, with the operands of the word. -/
def tableOperations (w : TxnWord) : List Instr :=
  memoryOperations (fieldA w) (fieldD w) ++ sharedOperations (tablePort w) (fieldD w) ++
    primaryOperations (tablePort w) (fieldD w) ++ handheldOperations (tablePort w) (fieldD w) ++
    standardOperations (tablePort w) (fieldD w) ++ legacyOperations (tablePort w) (fieldD w) ++
    firstGenOperations (tablePort w) (fieldD w)

/-- The table lists the operations in the order of `Instr`, each once. -/
theorem nodup_tableOperations (w : TxnWord) : (tableOperations w).Nodup :=
  List.Nodup.of_map Instr.ctorIdx (List.nodup_range (n := 59))

theorem mem_tableOperations {w : TxnWord} {i : Instr}
    (h : transactionFor i = some (transactionOf w).cutPort) : i ∈ tableOperations w := by
  cases i <;>
    simp_all [transactionFor, tableOperations, memoryOperations, sharedOperations, primaryOperations,
      handheldOperations, standardOperations, legacyOperations, firstGenOperations]

section Rows
variable {c : Ctx} {w : TxnWord} (hs : OfSession c w)
include hs

/-- In memory space a page is masked by its octant, not by a bucket. -/
theorem forall₂_isRowOf_memory :
    List.Forall₂ (IsRowOf c w) (tableMemory c w) (memoryOperations (fieldA w) (fieldD w)) := by
  simp [tableMemory, memoryOperations, IsRowOf, mnemonicOf, transactionFor, WellFormed, rowSelected,
    and_mask_eq_iff hs.spare, extractLsb'_bytes, page_and_C0_iff, page_and_E0_eq_40_iff,
    page_and_E0_eq_60_iff, page_and_80_iff, and_assoc, -and_C0_eq_00_iff]

theorem forall₂_isRowOf_shared :
    List.Forall₂ (IsRowOf c w) (tableShared w) (sharedOperations (tablePort w) (fieldD w)) := by
  cases hio : fieldIO w <;> cases hwr : fieldW w <;> cases hv : c.cfg.variant <;>
    simp [tableShared, sharedOperations, IsRowOf, mnemonicOf, transactionFor, WellFormed, rowSelected,
      and_mask_eq_iff hs.spare, hs.code, variantCode, hio, hwr, hv]

theorem forall₂_isRowOf_primary :
    List.Forall₂ (IsRowOf c w) (tablePrimary c w) (primaryOperations (tablePort w) (fieldD w)) := by
  cases hio : fieldIO w <;> cases hwr : fieldW w <;>
    simp [tablePrimary, primaryOperations, IsRowOf, mnemonicOf, transactionFor, WellFormed, rowSelected,
      and_mask_eq_iff hs.spare, hs.code, variantCode_eq_iff, variantOfCode, hio, hwr, and_assoc]

theorem forall₂_isRowOf_handheld :
    List.Forall₂ (IsRowOf c w) (tableHandheld c w) (handheldOperations (tablePort w) (fieldD w)) := by
  cases hio : fieldIO w <;> cases hwr : fieldW w <;>
    simp [tableHandheld, handheldOperations, IsRowOf, mnemonicOf, transactionFor, WellFormed, rowSelected,
      and_mask_eq_iff hs.spare, hs.code, variantCode_eq_iff, variantOfCode, hio, hwr, and_assoc, condHio,
      condPair]

/-- The row of `PW.2.ACTL` has the port in its pattern, where the rule has it as the last condition. -/
theorem forall₂_isRowOf_standard :
    List.Forall₂ (IsRowOf c w) (tableStandard c w) (standardOperations (tablePort w) (fieldD w)) := by
  cases hio : fieldIO w <;> cases hwr : fieldW w <;>
    simp [tableStandard, standardOperations, IsRowOf, mnemonicOf, transactionFor, WellFormed, rowSelected,
      and_mask_eq_iff hs.spare, hs.code, variantCode_eq_iff, variantOfCode, hio, hwr, and_assoc, or_assoc,
      extractLsb'_bytes, condPair, condTfm, condActl, condXfm, condPerg, -BitVec.reduceAppend]
  exact fun _ => and_rotate

theorem forall₂_isRowOf_legacy :
    List.Forall₂ (IsRowOf c w) (tableLegacy c w) (legacyOperations (tablePort w) (fieldD w)) := by
  cases hio : fieldIO w <;> cases hwr : fieldW w <;>
    simp [tableLegacy, legacyOperations, IsRowOf, mnemonicOf, transactionFor, WellFormed, rowSelected,
      and_mask_eq_iff hs.spare, hs.code, variantCode_eq_iff, variantOfCode, hio, hwr, and_assoc]

theorem forall₂_isRowOf_firstGen :
    List.Forall₂ (IsRowOf c w) tableFirstGen (firstGenOperations (tablePort w) (fieldD w)) := by
  cases hio : fieldIO w <;> cases hwr : fieldW w <;>
    simp [tableFirstGen, firstGenOperations, IsRowOf, mnemonicOf, transactionFor, WellFormed, rowSelected,
      and_mask_eq_iff hs.spare, hs.code, variantCode_eq_iff, variantOfCode, hio, hwr]

theorem forall₂_isRowOf : List.Forall₂ (IsRowOf c w) (opcodeTable c w) (tableOperations w) :=
  List.rel_append (List.rel_append (List.rel_append (List.rel_append (List.rel_append (List.rel_append
    (forall₂_isRowOf_memory hs) (forall₂_isRowOf_shared hs)) (forall₂_isRowOf_primary hs))
    (forall₂_isRowOf_handheld hs)) (forall₂_isRowOf_standard hs)) (forall₂_isRowOf_legacy hs))
    (forall₂_isRowOf_firstGen hs)

end Rows

/-! ### The selected row -/

/-- Only the selected operation carries the word's transaction and is well-formed. -/
theorem IsRowOf.rowSelected_eq {c : Ctx} {w : TxnWord} {r : TableRow} {i : Instr} (hr : IsRowOf c w r i)
    (h : c.prm.Admissible) : rowSelected w r = (i == select c (transactionOf w)) := by
  obtain ⟨-, hselected⟩ := hr
  rw [Bool.eq_iff_iff, hselected, beq_iff_eq]
  constructor
  · rintro ⟨ht, hwf⟩
    have hback := map_select_transactionFor h hwf
    rw [ht, Option.map_some, select_cutPort] at hback
    exact (Option.some.inj hback).symm
  · rintro rfl
    exact ⟨transactionFor_select c _, wellFormed_select h _⟩

theorem map_mnemonic_filter {sel : TableRow → Bool} {pick : Instr → Bool} {rows : List TableRow}
    {ops : List Instr}
    (h : List.Forall₂ (fun r i => r.mnemonic = mnemonicOf i ∧ sel r = pick i) rows ops) :
    (rows.filter sel).map TableRow.mnemonic = (ops.filter pick).map mnemonicOf := by
  induction h with
  | nil => rfl
  | cons hr _ ih =>
    obtain ⟨hname, hsel⟩ := hr
    rw [List.filter_cons, List.filter_cons, hsel]
    split
    · rw [List.map_cons, List.map_cons, hname, ih]
    · exact ih

end Sys2Proof

open Sys2Proof

/-- Settles O6: the selected rows are those of the operations equal to the decoded one, which the table lists
once. -/
theorem exactlyOneTableRowIsSelected : Obligations.ExactlyOneTableRowIsSelected := by
  intro c w i hadm hdec
  obtain ⟨hs, rfl⟩ := (decode_eq_ok_iff c w i).mp hdec
  have hrows := (forall₂_isRowOf hs).imp fun r i hr => And.intro hr.1 (hr.rowSelected_eq hadm)
  have hmem := mem_tableOperations (transactionFor_select c (transactionOf w))
  rw [selectedRows, map_mnemonic_filter hrows, List.filter_beq,
    List.count_eq_one_of_mem (nodup_tableOperations w) hmem, List.replicate_one, List.map_singleton]

end

section
/-! PROOFS. The memory-space operations one by one (40_memdecode.md R111 to R121). A word's masked bits fix its
space, direction and region. Each operation ends in a shared one, after `ARB` in its closed form for the four
that cross onto the shared bus (41_arbitration.md R147), and what a shared operation leaves is said once. -/

namespace Sys2Proof

/-! ### Words by their masked bits (30_encoding.md R81, R83) -/

section Words
variable {c : Ctx} {w mask pattern : TxnWord}

/-- A field that the mask keeps whole is the pattern's. -/
theorem extractLsb'_of_and_eq (h : w &&& mask = pattern) (i len : Nat)
    (hmask : mask.extractLsb' i len = BitVec.allOnes len) :
    w.extractLsb' i len = pattern.extractLsb' i len := by
  rw [← h, BitVec.extractLsb'_and, hmask, BitVec.and_allOnes]

/-- `IO = 0` and `W = 0` (R81): a memory read. -/
theorem decode_memoryRead (hspare : fieldSpare w = 0#3) (h : w.extractLsb' 16 2 = 0b00#2) :
    decode c w = .ok (selectMemRead c (fieldA w)) := by
  have hio : fieldIO w = false := by simpa [fieldIO] using congrArg (·.getLsbD 1) h
  have hwr : fieldW w = false := by simpa [fieldW] using congrArg (·.getLsbD 0) h
  simp [decode, transactionOf, select, hspare, hio, hwr]

/-- `IO = 0` and `W = 1` (R81): a memory write. -/
theorem decode_memoryWrite (hspare : fieldSpare w = 0#3) (h : w.extractLsb' 16 2 = 0b01#2) :
    decode c w = .ok (selectMemWrite c (fieldA w) (fieldD w)) := by
  have hio : fieldIO w = false := by simpa [fieldIO] using congrArg (·.getLsbD 1) h
  have hwr : fieldW w = true := by simpa [fieldW] using congrArg (·.getLsbD 0) h
  simp [decode, transactionOf, select, hspare, hio, hwr]

theorem octant_fieldA_of_and_eq (h : w &&& mask = pattern)
    (hmask : mask.extractLsb' 13 3 = BitVec.allOnes 3) :
    octant (fieldA w) = pattern.extractLsb' 13 3 :=
  (extractLsb'_extractLsb' w (by decide)).trans (extractLsb'_of_and_eq h 13 3 hmask)

/-- Bits 15 and 14 clear: the first two octants, which are RAM. -/
theorem octant_fieldA_ram (h : w.extractLsb' 14 2 = 0b00#2) :
    octant (fieldA w) = 0#3 ∨ octant (fieldA w) = 1#3 :=
  (extractLsb'_14_2_eq_zero_iff _).mp ((extractLsb'_extractLsb' w (by decide)).trans h)

theorem pageByte_fieldA (w : TxnWord) : pageByte (fieldA w) = w.extractLsb' 8 8 :=
  extractLsb'_extractLsb' w (by decide)

end Words

end Sys2Proof

namespace Sys2Proof.Machine

/-! ### The operands as the rules write them (R87) -/

/-- The model's own zero extension of the 16-bit address (log 16). -/
theorem windowAddress_eq_append (a : Addr) : windowAddress a = 0#8 ++ a :=
  BitVec.setWidth_eq_append (by decide)

theorem effectiveAddress_eq_or (b : PAddr) (a : Addr) :
    effectiveAddress b a = b ||| (0#8 ++ (a &&& 0x7FFF#16)) :=
  congrArg (b ||| ·) (BitVec.setWidth_eq_append (by decide))

/-- The serial `BSHIFT` (R117): every bit of BANK moves down by one, `D[0]` enters at the top, and the mask
keeps the nine high bits. -/
theorem bankShift_serial_high (b : PAddr) (v : Byte) :
    (bankShift .serial b v).extractLsb' 15 9 = v.extractLsb' 0 1 ++ b.extractLsb' 16 8 := by
  have hmask : (0xFF8000#24).extractLsb' 15 9 = BitVec.allOnes 9 := by decide
  have hbank : (b >>> 1).extractLsb' 15 9 = 0#1 ++ b.extractLsb' 16 8 := by
    apply BitVec.eq_of_getLsbD_eq
    intro i hi
    grind
  have hdata : ((v &&& 1#8).zeroExtend 24 <<< 23).extractLsb' 15 9 = v.extractLsb' 0 1 ++ 0#8 := by
    apply BitVec.eq_of_getLsbD_eq
    intro i hi
    grind
  rw [bankShift, BitVec.extractLsb'_and, hmask, BitVec.and_allOnes, BitVec.extractLsb'_or, hbank, hdata,
    BitVec.or_append, BitVec.zero_or, BitVec.or_zero]

theorem bankShift_external_high (b : PAddr) (v : Byte) :
    (bankShift .external b v).extractLsb' 15 9 = Config.bshiftHigh b v :=
  BitVec.extractLsb'_append_eq_left

/-! ### What the shared operations leave -/

section Shared
variable (s : State)

/-- A write call: one event without an answer (00_scope.md R10). -/
theorem callWrite_eq (call : Call) :
    callWrite s call = { s with
      calls := s.calls ++ [call]
      ext := Config.extAfter s.seen call
      ret := none } := rfl

/-- `RUN & ~1` as a number. -/
theorem clearEnable_eq (r : Nat) : clearEnable r = r / 2 * 2 := by
  apply Nat.eq_of_testBit_eq
  intro j
  rw [clearEnable_testBit]
  cases j <;> simp [Nat.testBit_succ]

/-- `LKR` in one piece (48_fault_handlers.md R263). -/
theorem lockupRead_eq :
    lockupRead s = { s with
      ccyc := if s.cfg.forceNoLockup then s.ccyc else .never
      run := if s.cfg.forceNoLockup then s.run else s.run / 2 * 2
      ret := some 0xFF#8 } := by
  rw [lockupRead, lockup_eq, clearEnable_eq]; rfl

/-- `LKW` in one piece (R264). -/
theorem lockupWrite_eq :
    lockupWrite s = { s with
      ccyc := if s.cfg.forceNoLockup then s.ccyc else .never
      run := if s.cfg.forceNoLockup then s.run else s.run / 2 * 2
      ret := none } := by
  rw [lockupWrite, lockup_eq, clearEnable_eq]; rfl

end Shared

/-! ### What each operation ends in -/

section Exec
variable {s : State} {c : Nat} (hrun : RunningAt s c) (a : Addr) (d : Byte)
include hrun

theorem exec_mrSnd : exec (.mrSnd a) s = .next (callRead s (.sndRead c (sndReg a))) :=
  running_of_runningAt s c _ hrun

theorem exec_mwSnd : exec (.mwSnd a d) s = .next (callWrite s (.sndWrite c (sndReg a) d)) :=
  running_of_runningAt s c _ hrun

theorem exec_mwBsel : exec (.mwBsel a d) s = .next (callBshift s d) := running_of_runningAt s c _ hrun

theorem exec_mrCunused : exec (.mrCunused a) s = .next (unusedRead s) := running_of_runningAt s c _ hrun

theorem exec_mwCunused : exec (.mwCunused a d) s = .next (unusedWrite s) :=
  running_of_runningAt s c _ hrun

theorem exec_mrVid {h : Handler} (hvid : videoEntry s = .delegate h) :
    exec (.mrVid a) s = .next (handlerRead h (windowAddress a) (arbResult s c)) := by
  rw [← arb_eq_arbResult s c hrun]
  exact (whenRunning_of_runningAt s c _ hrun).trans (by rw [hvid])

theorem exec_mwVid {h : Handler} (hvid : videoEntry s = .delegate h) :
    exec (.mwVid a d) s = .next (handlerWrite h (windowAddress a) d (arbResult s c)) := by
  rw [← arb_eq_arbResult s c hrun]
  exact (whenRunning_of_runningAt s c _ hrun).trans (by rw [hvid])

theorem exec_mrVid_direct {buf : Nat} (hvid : videoEntry s = .direct buf) :
    exec (.mrVid a) s = .refused .videoEntryDirect :=
  (whenRunning_of_runningAt s c _ hrun).trans (by rw [hvid])

theorem exec_mwVid_direct {buf : Nat} (hvid : videoEntry s = .direct buf) :
    exec (.mwVid a d) s = .refused .videoEntryDirect :=
  (whenRunning_of_runningAt s c _ hrun).trans (by rw [hvid])

theorem exec_mrBank {e : BtEntry} (he : bankedEntry s a = e) :
    exec (.mrBank a) s = .next (entryRead e (effectiveAddress s.bank a) (arbResult s c)) := by
  rw [← he, ← arb_eq_arbResult s c hrun]
  exact running_of_runningAt s c _ hrun

theorem exec_mwBank {e : BtEntry} (he : bankedEntry s a = e) :
    exec (.mwBank a d) s = .next (entryWrite e (effectiveAddress s.bank a) d (arbResult s c)) := by
  rw [← he, ← arb_eq_arbResult s c hrun]
  exact running_of_runningAt s c _ hrun

end Exec

end Sys2Proof.Machine

open Sys2Proof Sys2Proof.Machine

/-- Settles O22: the call's answer is the new BANK, of which every `BSHIFT` leaves the low bits zero. -/
theorem bankSelectWrite : Obligations.BankSelectWrite := by
  intro s c a d hrun
  refine ⟨_, exec_mwBsel hrun a d, callBshift_eq s d, ?_, ?_, ?_⟩
  · exact beq_iff_eq.mp (bankShift_aligned s.prm.bshift s.bank d)
  · intro hlogic
    rw [callBshift_eq, hlogic]
    exact bankShift_external_high s.bank d
  · intro hlogic
    rw [callBshift_eq, hlogic]
    exact bankShift_serial_high s.bank d

/-- Settles O15: a running block looks the entry up before anything else. -/
theorem videoWindowRefusesADirectEntry : Obligations.VideoWindowRefusesADirectEntry := by
  intro s c buf a d hrun hvid
  exact ⟨exec_mrVid_direct hrun a hvid, exec_mwVid_direct hrun a d hvid⟩

/-- Settles O16: the mask fixes space, direction and the first two octants. -/
theorem ramReadReturnsItsByte : Obligations.RamReadReturnsItsByte := by
  intro s c a w
  refine ⟨fun hspare h => ?_, fun hrun => exec_mrRam hrun a⟩
  rw [decode_memoryRead hspare (extractLsb'_of_and_eq h 16 2 (by decide))]
  exact congrArg _ (if_pos (octant_fieldA_ram (extractLsb'_of_and_eq h 14 2 (by decide))))

/-- Settles O17: one byte is stored, so a read of RAM sees it at its offset only. -/
theorem ramWriteStoresOneByte : Obligations.RamWriteStoresOneByte := by
  intro s c a d w
  refine ⟨fun hspare h => ?_, fun hrun => ⟨_, exec_mwRam hrun a d, ?_, fun o ho => ?_, fun _ _ => rfl, rfl⟩⟩
  · rw [decode_memoryWrite hspare (extractLsb'_of_and_eq h 16 2 (by decide))]
    exact congrArg _ (if_pos (octant_fieldA_ram (extractLsb'_of_and_eq h 14 2 (by decide))))
  · exact (ramByte_writeRam s _ _ d).trans (if_pos rfl)
  · exact (ramByte_writeRam s _ _ d).trans (if_neg ho)

/-- Settles O19: octant 2, and a call that sees CCYC as it is. -/
theorem soundChipForward : Obligations.SoundChipForward := by
  intro s c a d w
  refine ⟨fun hspare h => ?_, fun hspare h => ?_, fun hrun => ⟨?_, ?_⟩⟩
  · rw [decode_memoryRead hspare (extractLsb'_of_and_eq h 16 2 (by decide)),
      selectMemRead_of_octant_two (octant_fieldA_of_and_eq h (by decide))]
  · rw [decode_memoryWrite hspare (extractLsb'_of_and_eq h 16 2 (by decide)),
      selectMemWrite_of_octant_two _ (octant_fieldA_of_and_eq h (by decide))]
  · exact (exec_mrSnd hrun a).trans (congrArg _ (callRead_eq s _))
  · exact (exec_mwSnd hrun a d).trans (congrArg _ (callWrite_eq s _))

/-- Settles O20, by the handler of the entry. -/
theorem videoWindowRead : Obligations.VideoWindowRead := by
  intro s c a hrun
  rw [← windowAddress_eq_append]
  have hexec (h : Handler) (hvid : videoEntry s = .delegate h) := exec_mrVid hrun a hvid
  refine ⟨fun hvid => ?_, fun id hvid => ?_, fun hvid => ?_, fun hvid => ?_⟩
  · exact (hexec _ hvid).trans (congrArg _ (callRead_eq _ _))
  · exact (hexec _ hvid).trans (congrArg _ (callRead_eq _ _))
  · exact hexec _ hvid
  · exact (hexec _ hvid).trans (congrArg _ (lockupRead_eq _))

/-- Settles O21, by the handler of the entry. -/
theorem videoWindowWrite : Obligations.VideoWindowWrite := by
  intro s c a d hrun
  rw [← windowAddress_eq_append]
  have hexec (h : Handler) (hvid : videoEntry s = .delegate h) := exec_mwVid hrun a d hvid
  refine ⟨fun hvid => ?_, fun id hvid => ?_, fun hvid => ?_, fun hvid => ?_⟩
  · exact (hexec _ hvid).trans (congrArg _ (callWrite_eq _ _))
  · exact (hexec _ hvid).trans (congrArg _ (callWrite_eq _ _))
  · exact hexec _ hvid
  · exact (hexec _ hvid).trans (congrArg _ (lockupWrite_eq _))

/-- Settles O23: octant 3 on a page that no rule names, and a handler that touches `ret` only. -/
theorem unusedRegionC : Obligations.UnusedRegionC := by
  intro s c a d w
  rw [← pageByte_fieldA]
  refine ⟨fun hspare h hvid => ?_, fun hspare h hvid hbank => ?_, fun hrun =>
    ⟨exec_mrCunused hrun a, exec_mwCunused hrun a d⟩⟩
  · rw [decode_memoryRead hspare (extractLsb'_of_and_eq h 16 2 (by decide)),
      selectMemRead_of_octant_three (octant_fieldA_of_and_eq h (by decide))]
    exact congrArg _ (if_neg hvid)
  · rw [decode_memoryWrite hspare (extractLsb'_of_and_eq h 16 2 (by decide)),
      selectMemWrite_of_octant_three _ (octant_fieldA_of_and_eq h (by decide))]
    exact congrArg _ ((if_neg hvid).trans (if_neg hbank))

/-- Settles O24, by the entry of the effective address. -/
theorem bankedRead : Obligations.BankedRead := by
  rintro s c a _ hrun rfl
  rw [← effectiveAddress_eq_or]
  have hexec (e : BtEntry) (he : bankedEntry s a = e) := exec_mrBank hrun a he
  refine ⟨fun buf he => ?_, fun he => ?_, fun id he => ?_, fun he => ?_, fun he => ?_⟩
  · exact hexec _ he
  · exact (hexec _ he).trans (congrArg _ (callRead_eq _ _))
  · exact (hexec _ he).trans (congrArg _ (callRead_eq _ _))
  · exact hexec _ he
  · exact (hexec _ he).trans (congrArg _ (lockupRead_eq _))

/-- Settles O25, by the entry of the effective address; a Direct buffer gets the one byte. -/
theorem bankedWrite : Obligations.BankedWrite := by
  rintro s c a d _ hrun rfl
  rw [← effectiveAddress_eq_or]
  have hexec (e : BtEntry) (he : bankedEntry s a = e) := exec_mwBank hrun a d he
  refine ⟨fun buf he => ⟨_, hexec _ he, ?_, fun b o hother => ?_, fun _ => rfl, rfl⟩, fun he => ?_,
    fun id he => ?_, fun he => ?_, fun he => ?_⟩
  · exact (bufByte_writeBuf (arbResult s c) _ _ _ _ d).trans (if_pos ⟨rfl, rfl⟩)
  · exact (bufByte_writeBuf (arbResult s c) _ _ _ _ d).trans (if_neg hother)
  · exact (hexec _ he).trans (congrArg _ (callWrite_eq _ _))
  · exact (hexec _ he).trans (congrArg _ (callWrite_eq _ _))
  · exact hexec _ he
  · exact (hexec _ he).trans (congrArg _ (lockupWrite_eq _))

end

section
/-! PROOFS. The Bus Arbitration Unit (41_arbitration.md). `ARB` is read off its closed form `arbResult` (R147):
where CCYC, PCYC and RUN end, and that a run leaves CCYC past the end of the transfer, so that the next one
cannot stall. Of the operations a transaction selects only the four that cross onto the shared bus reach it
(R140); each of the others ends in a shared operation that keeps the counters and RUN, `PW.4.SGEN` apart. -/

namespace Sys2Proof.Machine

/-! ### The closed form of `ARB` (R147) -/

section ClosedForm
variable {s : State} {c : Nat}

theorem exec_arb (hrun : RunningAt s c) : exec .arb s = .next ((arbResult s c).setRet none) := by
  rw [← arb_eq_arbResult s c hrun]
  exact running_of_runningAt s c _ hrun

variable (s c)

/-- CCYC after `ARB` entered at `c`: 45 beyond what step 1 left (R145). -/
def arbEnd : Nat := if stalls s c then s.dma.endCycle + 45 else c + 45

theorem runningAt_arbResult : RunningAt (arbResult s c) (arbEnd s c) :=
  congrArg Cycle.num (ite_add _ _ _ _)

theorem pcyc_arbResult : (arbResult s c).pcyc = s.pcyc + waitCharge c := by
  rw [waitCharge_cases]; rfl

/-- The owed bit is set after a stall that leaves a transfer unfinished; no other bit changes (R143, D8). -/
theorem testBit_run_arbResult (j : Nat) :
    (arbResult s c).run.testBit j = (s.run.testBit j || (decide (j = s.prm.owedBit) &&
      decide (s.dma.conflictClass < 2 ∧ c < s.dma.endCycle ∧ s.dma.remainingLength ≠ 0))) := by
  by_cases howed : s.dma.conflictClass < 2 ∧ c < s.dma.endCycle ∧ s.dma.remainingLength ≠ 0
  · simp only [arbResult, if_pos howed, Nat.testBit_or, Nat.testBit_two_pow, decide_eq_true howed,
      Bool.and_true, eq_comm]
  · simp only [arbResult, if_neg howed, decide_eq_false howed, Bool.and_false, Bool.or_false]

theorem add_le_arbEnd : c + 45 ≤ arbEnd s c := by
  unfold arbEnd
  split
  next hstall => exact Nat.add_le_add_right hstall.2.le 45
  next => exact le_rfl

/-- Past a run CCYC is behind the transfer no more: it stands 45 after the end, or was not behind before. -/
theorem not_stalls_arbEnd : ¬ stalls s (arbEnd s c) := by
  rintro ⟨hclass, hbehind⟩
  unfold arbEnd at hbehind
  split at hbehind
  next => omega
  next hno => exact hno ⟨hclass, by omega⟩

variable {s c}

theorem arbEnd_of_stalls (hstall : stalls s c) : arbEnd s c = s.dma.endCycle + 45 := if_pos hstall

theorem arbEnd_of_not_stalls (hno : ¬ stalls s c) : arbEnd s c = c + 45 := if_neg hno

theorem run_arbResult_of_not_stalls (hno : ¬ stalls s c) : (arbResult s c).run = s.run :=
  if_neg fun ⟨hclass, hbehind, _⟩ => hno ⟨hclass, hbehind⟩

end ClosedForm

/-! ### PCYC after an access over the shared bus -/

section SharedBus
variable (s : State)

@[simp] theorem pcyc_lockup : (lockup s).pcyc = s.pcyc := by rw [lockup_eq]

@[simp] theorem pcyc_handlerRead (h : Handler) (addr : PAddr) : (handlerRead h addr s).pcyc = s.pcyc := by
  cases h with
  | lockup => exact pcyc_lockup s
  | unused | video | ext => rfl

@[simp] theorem pcyc_handlerWrite (h : Handler) (addr : PAddr) (v : Byte) :
    (handlerWrite h addr v s).pcyc = s.pcyc := by
  cases h with
  | lockup => exact pcyc_lockup s
  | unused | video | ext => rfl

@[simp] theorem pcyc_entryRead (e : BtEntry) (ea : PAddr) : (entryRead e ea s).pcyc = s.pcyc := by
  cases e with
  | direct => rfl
  | delegate h => exact pcyc_handlerRead s h ea

@[simp] theorem pcyc_entryWrite (e : BtEntry) (ea : PAddr) (v : Byte) :
    (entryWrite e ea v s).pcyc = s.pcyc := by
  cases e with
  | direct => rfl
  | delegate h => exact pcyc_handlerWrite s h ea v

variable {s}

theorem pcyc_arb {c : Nat} (hrun : RunningAt s c) : (arb c s).pcyc = s.pcyc + waitCharge c := by
  rw [arb_eq_arbResult s c hrun, pcyc_arbResult]

/-- `ARB` charges once, and what the BankTable entry does charges nothing (R140). -/
theorem pcyc_of_crossesSharedBus {i : Instr} {t : State} (hbus : crossesSharedBus i = true)
    (h : exec i s = .next t) : ∃ c, t.pcyc = s.pcyc + waitCharge c := by
  cases i with
  | mrVid a =>
    obtain ⟨c, d, hrun, -, rfl⟩ := execMrVid_next h
    exact ⟨c, (pcyc_handlerRead _ d _).trans (pcyc_arb hrun)⟩
  | mwVid a v =>
    obtain ⟨c, d, hrun, -, rfl⟩ := execMwVid_next h
    exact ⟨c, (pcyc_handlerWrite _ d _ v).trans (pcyc_arb hrun)⟩
  | mrBank a =>
    obtain ⟨c, hrun, rfl⟩ := running_next s t _ h
    exact ⟨c, (pcyc_entryRead _ _ _).trans (pcyc_arb hrun)⟩
  | mwBank a d =>
    obtain ⟨c, hrun, rfl⟩ := running_next s t _ h
    exact ⟨c, (pcyc_entryWrite _ _ _ d).trans (pcyc_arb hrun)⟩
  | _ => cases hbus

end SharedBus

/-! ### The other operations keep the counters and RUN -/

/-- From `s` to `t` no cycle is charged and RUN stands. -/
structure KeepsCounters (s t : State) : Prop where
  ccyc : t.ccyc = s.ccyc
  pcyc : t.pcyc = s.pcyc
  run : t.run = s.run

section Others
variable {s t : State}

theorem KeepsCounters.record (h : KeepsCounters s t) (call : Call) : KeepsCounters s (t.record call) :=
  ⟨h.ccyc, h.pcyc, h.run⟩

theorem KeepsCounters.setRet (h : KeepsCounters s t) (v : Option Byte) : KeepsCounters s (t.setRet v) :=
  ⟨h.ccyc, h.pcyc, h.run⟩

theorem KeepsCounters.setSsr (h : KeepsCounters s t) (v : Byte) : KeepsCounters s (t.setSsr v) :=
  ⟨h.ccyc, h.pcyc, h.run⟩

theorem keepsCounters_setRet (s : State) (v : Option Byte) : KeepsCounters s (s.setRet v) :=
  ⟨rfl, rfl, rfl⟩

theorem keepsCounters_record (s : State) (call : Call) : KeepsCounters s (s.record call) :=
  ⟨rfl, rfl, rfl⟩

theorem keepsCounters_callRead (s : State) (call : Call) : KeepsCounters s (callRead s call) :=
  (keepsCounters_record s call).setRet _

theorem keepsCounters_callWrite (s : State) (call : Call) : KeepsCounters s (callWrite s call) :=
  (keepsCounters_record s call).setRet none

theorem keepsCounters_callHv (s : State) (cycle : Int) (p : Port) : KeepsCounters s (callHv s cycle p) :=
  (keepsCounters_record s _).setRet _

theorem keepsCounters_callPerWrite (s : State) (p : Port) (d : Byte) (offset : Int) :
    KeepsCounters s (callPerWrite s p d offset) :=
  (keepsCounters_callWrite s _).setSsr _

theorem keepsCounters_unusedPortRead (s : State) : KeepsCounters s (unusedPortRead s) := by
  unfold unusedPortRead
  split
  · rw [openBus_eq]; exact ⟨rfl, rfl, rfl⟩
  · exact keepsCounters_setRet s _

theorem KeepsCounters.of_running {k : Nat → State} (h : running s k = .next t)
    (hk : ∀ c, KeepsCounters s (k c)) : KeepsCounters s t := by
  obtain ⟨c, -, rfl⟩ := running_next s t k h
  exact hk c

/-- The stall of `PW.4.SGEN` is CCYC's alone (47_port_firstgen.md R247). -/
theorem pcyc_run_of_exec_pw4Sgen {p : Port} {d : Byte} (h : exec (.pw4Sgen p d) s = .next t) :
    t.pcyc = s.pcyc ∧ t.run = s.run := by
  obtain ⟨c, hrun, rfl⟩ := running_next s t _ h
  simp [addCycles, callWrite, hrun]

/-- Every operation of a transaction but those five: a call, a write of its own or an unused handler. -/
theorem keepsCounters_of_exec_next {i : Instr} (htxn : transactionFor i ≠ none)
    (hbus : crossesSharedBus i = false) (hsgen : ∀ p d, i ≠ .pw4Sgen p d) (h : exec i s = .next t) :
    KeepsCounters s t := by
  cases i with
  | arb | umr | umw | lkr | lkw | upr | upw => exact absurd rfl htxn
  | mrVid | mwVid | mrBank | mwBank => cases hbus
  | pw4Sgen p d => exact absurd rfl (hsgen p d)
  | mrRam | mrCunused | mwCunused | pw0Def | pw1B00 | pw1Def | pw2B00 | pw2Def | pw3B00 | pw3Def | pw4B00
  | pw4Def => exact .of_running h fun _ => keepsCounters_setRet s _
  | mrSnd | prVdata | prVctrl | pr0Fm | pr1Hio | pr2Tfm | pr2Xfm | pr2Perg | pr3Fm | pr3Per | pr4Vctrl
  | pr4Per => exact .of_running h fun _ => keepsCounters_callRead s _
  | mwSnd | pwVdata | pwVctrl | pwSgen | pw0Fm | pw1Hio | pw2Tfm | pw2Xfm | pw4Vctrl =>
    exact .of_running h fun _ => keepsCounters_callWrite s _
  | prHv | pr0Hv => exact .of_running h fun _ => keepsCounters_callHv s _ _
  | pw0Per | pw1Per3E | pw2Per | pw3Per =>
    exact .of_running h fun _ => keepsCounters_callPerWrite s _ _ _
  | pr0B00 | pr0Def | pr1B00 | pr1Def | pr2B00 | pr2Def | pr3B00 | pr3Def | pr4B00 | pr4B40 =>
    exact .of_running h fun _ => keepsCounters_unusedPortRead s
  | mwRam | mwBsel => exact .of_running h fun _ => ⟨rfl, rfl, rfl⟩
  | pw2Actl p d =>
    exact .of_running h fun _ => (((keepsCounters_record s _).record _).setRet none).setSsr d
  | pr1Per3E p =>
    refine .of_running h fun _ => ?_
    split
    · exact keepsCounters_callRead s _
    · exact keepsCounters_unusedPortRead s
  | pw3Fm p d =>
    refine .of_running h fun _ => ?_
    split
    · exact (keepsCounters_callWrite s _).record _
    · exact keepsCounters_callWrite s _

end Others

/-- A word never decodes to an INTERNAL operation: what it selects carries its transaction (R92). -/
theorem transactionFor_ne_none_of_decode_ok {ctx : Ctx} {w : TxnWord} {i : Instr}
    (hdec : decode ctx w = .ok i) : transactionFor i ≠ none := by
  rw [eq_select_of_decode_ok ctx w i hdec, transactionFor_select]
  exact Option.some_ne_none _

end Sys2Proof.Machine

open Sys2Proof Sys2Proof.Machine

/-- Settles O27: the closed form, with the charge by the table of R142. -/
theorem arbitrationCharges : Obligations.ArbitrationCharges := by
  intro s c hrun
  have hpcyc := pcyc_arbResult s c
  have hcharge := waitCharge_cases c
  refine ⟨_, _, exec_arb hrun, runningAt_arbResult s c, hpcyc, fun hlow => ?_, fun hhigh => ?_,
    Nat.mul_mod_left _ 7, fun hclass hbehind => arbEnd_of_stalls ⟨hclass, hbehind⟩, arbEnd_of_not_stalls⟩
  · exact hpcyc.trans (by rw [hcharge, if_pos (by omega)])
  · exact hpcyc.trans (by rw [hcharge, if_neg (by omega)])

/-- Settles O28: the closed form twice, the second time from a CCYC that is not behind the transfer. -/
theorem arbitrationEndState : Obligations.ArbitrationEndState := by
  intro s
  refine ⟨fun c hrun => ?_, fun hhalt => running_of_halted s _ hhalt⟩
  have hccyc : RunningAt ((arbResult s c).setRet none) (arbEnd s c) := runningAt_arbResult s c
  have hno : ¬ stalls ((arbResult s c).setRet none) (arbEnd s c) := not_stalls_arbEnd s c
  refine ⟨_, _, exec_arb hrun, hccyc, rfl, add_le_arbEnd s c, pcyc_arbResult s c,
    testBit_run_arbResult s c, rfl, _, exec_arb hccyc, ?_, run_arbResult_of_not_stalls hno⟩
  rw [← arbEnd_of_not_stalls hno]
  exact runningAt_arbResult _ _

/-- Settles O55: the four that cross the shared bus are charged by `ARB`; every other operation that a
word selects keeps the counters and RUN, but for the stall of `PW.4.SGEN`. -/
theorem onlySharedBusAccessesCharge : Obligations.OnlySharedBusAccessesCharge := by
  intro s t w rest i hin hdec hstep
  rw [step_txn_of_decode_ok s w rest i hin hdec] at hstep
  refine ⟨fun hbus => ?_, fun hbus => ?_⟩
  · obtain ⟨c, hpcyc⟩ := pcyc_of_crossesSharedBus hbus hstep
    rw [hpcyc, waitCharge_cases]
    split
    · exact .inl rfl
    · exact .inr rfl
  · by_cases hsgen : ∃ p d, i = .pw4Sgen p d
    · obtain ⟨p, d, rfl⟩ := hsgen
      obtain ⟨hpcyc, hrun⟩ := pcyc_run_of_exec_pw4Sgen hstep
      exact ⟨hpcyc, hrun, fun hi => absurd rfl (hi p d)⟩
    · push Not at hsgen
      obtain ⟨hccyc, hpcyc, hrun⟩ :=
        keepsCounters_of_exec_next (transactionFor_ne_none_of_decode_ok hdec) hbus hsgen hstep
      exact ⟨hpcyc, hrun, fun _ => hccyc⟩

end

section
/-! PROOFS. The port operations that several variants share (42_port_common.md R155 to R167). Each table offers
its own operations and those the rules share with it (`offeredIn`), so none of another variant. A port word's
masked bits fix its space, direction and bucket; in a bucket the tables agree but where the statement names the
variant. Each operation then ends in one call of a shared kind. -/

namespace Sys2Proof

/-! ### The operations of a variant's table (R167) -/

/-- The rules give `i` to `v` too, if it is one of the shared operations (R159, R160, R162, R164). -/
def sharedWith (v : Variant) (i : Instr) : Bool :=
  match i with
  | .prVctrl _ | .pwVctrl _ _ | .pwSgen _ _ => v != .firstGen
  | .prHv _ => v != .primary && v != .firstGen
  | _ => true

/-- `i` is no other variant's own operation, and no shared one that `v` lacks (R167). -/
def offeredIn (v : Variant) (i : Instr) : Bool := (Machine.ownVariant i).all (· == v) && sharedWith v i

section Offered
variable (c : Ctx) (p : Port) (d : Byte)

theorem offeredIn_selectMemRead (v : Variant) (a : Addr) : offeredIn v (selectMemRead c a) = true := by
  fun_cases selectMemRead c a <;> rfl

theorem offeredIn_selectMemWrite (v : Variant) (a : Addr) : offeredIn v (selectMemWrite c a d) = true := by
  fun_cases selectMemWrite c a d <;> rfl

theorem offeredIn_standardDefaultRead : offeredIn .standard (standardDefaultRead c p) = true := by
  fun_cases standardDefaultRead c p <;> rfl

theorem offeredIn_standardDefaultWrite : offeredIn .standard (standardDefaultWrite c p d) = true := by
  fun_cases standardDefaultWrite c p d <;> rfl

theorem offeredIn_selectPortRead : offeredIn c.cfg.variant (selectPortRead c p) = true := by
  fun_cases selectPortRead c p
  case case1 hv => rw [hv]; fun_cases primaryRead c p <;> rfl
  case case2 hv => rw [hv]; fun_cases handheldRead c p <;> rfl
  case case3 hv =>
    rw [hv]
    fun_cases standardRead c p
    case case5 => exact offeredIn_standardDefaultRead c p
    all_goals rfl
  case case4 hv => rw [hv]; fun_cases legacyRead c p <;> rfl
  case case5 hv => rw [hv]; fun_cases firstGenRead p <;> rfl

theorem offeredIn_selectPortWrite : offeredIn c.cfg.variant (selectPortWrite c p d) = true := by
  fun_cases selectPortWrite c p d
  case case1 hv => rw [hv]; fun_cases primaryWrite c p d <;> rfl
  case case2 hv => rw [hv]; fun_cases handheldWrite c p d <;> rfl
  case case3 hv =>
    rw [hv]
    fun_cases standardWrite c p d
    case case6 => exact offeredIn_standardDefaultWrite c p d
    all_goals rfl
  case case4 hv => rw [hv]; fun_cases legacyWrite c p d <;> rfl
  case case5 hv => rw [hv]; fun_cases firstGenWrite p d <;> rfl

/-- A transaction selects from memory space or from the session's own table (R155). -/
theorem offeredIn_select (t : Transaction) : offeredIn c.cfg.variant (select c t) = true := by
  cases t with
  | mr a => exact offeredIn_selectMemRead c _ a
  | mw a d => exact offeredIn_selectMemWrite c d _ a
  | pr port => exact offeredIn_selectPortRead c (portNumber port)
  | pw port d => exact offeredIn_selectPortWrite c (portNumber port) d

end Offered

/-! ### Port words by their masked bits (30_encoding.md R81, R84) -/

section Words
variable {c : Ctx} {w mask pattern : TxnWord}

theorem portNumber_fieldA_eq_extractLsb' (w : TxnWord) : portNumber (fieldA w) = w.extractLsb' 0 8 :=
  extractLsb'_extractLsb' w (by decide)

/-- `IO = 1`, `W = 0` and the session's variant: a port read. -/
theorem decode_portRead (hspare : fieldSpare w = 0#3) (hcode : fieldV w = variantCode c.cfg.variant)
    (h : w.extractLsb' 16 2 = 0b10#2) : decode c w = .ok (selectPortRead c (w.extractLsb' 0 8)) := by
  have hio : fieldIO w = true := by simpa [fieldIO] using congrArg (·.getLsbD 1) h
  have hwr : fieldW w = false := by simpa [fieldW] using congrArg (·.getLsbD 0) h
  refine (decode_eq_ok_iff c w _).mpr ⟨⟨hspare, fun _ => hcode⟩, ?_⟩
  simp [transactionOf, select, hio, hwr, portNumber_fieldA_eq_extractLsb']

/-- `IO = 1`, `W = 1` and the session's variant: a port write. -/
theorem decode_portWrite (hspare : fieldSpare w = 0#3) (hcode : fieldV w = variantCode c.cfg.variant)
    (h : w.extractLsb' 16 2 = 0b11#2) :
    decode c w = .ok (selectPortWrite c (w.extractLsb' 0 8) (fieldD w)) := by
  have hio : fieldIO w = true := by simpa [fieldIO] using congrArg (·.getLsbD 1) h
  have hwr : fieldW w = true := by simpa [fieldW] using congrArg (·.getLsbD 0) h
  refine (decode_eq_ok_iff c w _).mpr ⟨⟨hspare, fun _ => hcode⟩, ?_⟩
  simp [transactionOf, select, hio, hwr, portNumber_fieldA_eq_extractLsb']

/-- The low byte of a masked word is the masked port. -/
theorem port_and_of_and_eq (h : w &&& mask = pattern) :
    w.extractLsb' 0 8 &&& mask.extractLsb' 0 8 = pattern.extractLsb' 0 8 := by
  rw [← BitVec.extractLsb'_and, h]

theorem ne_firstGen_of_code {n : BitVec 3} {v : Variant} (hcode : n = variantCode v) (hle : n.toNat ≤ 3) :
    v ≠ .firstGen := by
  rintro rfl
  rw [hcode] at hle
  exact absurd hle (by decide)

end Words

/-! ### The shared buckets of the tables (R85, R157 to R164) -/

section Buckets
variable {c : Ctx} {p : Port} (d : Byte)

theorem selectPortRead_of_vdata (hb : bucket p = .vdata) : selectPortRead c p = .prVdata p := by
  simp only [selectPortRead, primaryRead, handheldRead, standardRead, legacyRead, firstGenRead, hb]
  split <;> rfl

theorem selectPortWrite_of_vdata (hb : bucket p = .vdata) : selectPortWrite c p d = .pwVdata p d := by
  simp only [selectPortWrite, primaryWrite, handheldWrite, standardWrite, legacyWrite, firstGenWrite, hb]
  split <;> rfl

theorem selectPortRead_of_vctrl (hb : bucket p = .vctrl) (hne : c.cfg.variant ≠ .firstGen) :
    selectPortRead c p = .prVctrl p := by
  cases hv : c.cfg.variant with
  | firstGen => exact absurd hv hne
  | primary | handheld | standard | legacy =>
    simp [selectPortRead, hv, primaryRead, handheldRead, standardRead, legacyRead, hb]

theorem selectPortWrite_of_vctrl (hb : bucket p = .vctrl) (hne : c.cfg.variant ≠ .firstGen) :
    selectPortWrite c p d = .pwVctrl p d := by
  cases hv : c.cfg.variant with
  | firstGen => exact absurd hv hne
  | primary | handheld | standard | legacy =>
    simp [selectPortWrite, hv, primaryWrite, handheldWrite, standardWrite, legacyWrite, hb]

theorem selectPortWrite_of_b40 (hb : bucket p = .b40) (hne : c.cfg.variant ≠ .firstGen) :
    selectPortWrite c p d = .pwSgen p d := by
  cases hv : c.cfg.variant with
  | firstGen => exact absurd hv hne
  | primary | handheld | standard | legacy =>
    simp [selectPortWrite, hv, primaryWrite, handheldWrite, standardWrite, legacyWrite, hb]

theorem selectPortRead_of_b40_of_primary (hb : bucket p = .b40) (hv : c.cfg.variant = .primary) :
    selectPortRead c p = .pr0Hv p := by
  simp [selectPortRead, hv, primaryRead, hb]

theorem selectPortRead_of_b40 (hb : bucket p = .b40) (hne0 : c.cfg.variant ≠ .primary)
    (hne4 : c.cfg.variant ≠ .firstGen) : selectPortRead c p = .prHv p := by
  cases hv : c.cfg.variant with
  | primary => exact absurd hv hne0
  | firstGen => exact absurd hv hne4
  | handheld | standard | legacy => simp [selectPortRead, hv, handheldRead, standardRead, legacyRead, hb]

end Buckets

end Sys2Proof

namespace Sys2Proof.Machine

section
variable {s : State} {c : Nat}

theorem selects_portRead {p : Port} {i : Instr} (h : selectPortRead s.ctx p = i) :
    Selects s (portRead p) i := by
  rw [← h, ← select_pr]
  exact decode_wordOf s.ctx (portRead p)

theorem selects_portWrite {p : Port} {d : Byte} {i : Instr} (h : selectPortWrite s.ctx p d = i) :
    Selects s (portWrite p d) i := by
  rw [← h, ← select_pw]
  exact decode_wordOf s.ctx (portWrite p d)

/-! ### The operations that end in one call (R155) -/

theorem running_callRead (hrun : RunningAt s c) (call : Nat → Call) :
    running s (fun cycle => callRead s (call cycle)) = .next { s with
      calls := s.calls ++ [call c]
      ext := Config.extAfter s.seen (call c)
      ret := some (Config.answer s.seen (call c)) } :=
  running_of_runningAt s c _ hrun

theorem running_callWrite (hrun : RunningAt s c) (call : Nat → Call) :
    running s (fun cycle => callWrite s (call cycle)) = .next { s with
      calls := s.calls ++ [call c]
      ext := Config.extAfter s.seen (call c)
      ret := none } :=
  running_of_runningAt s c _ hrun

/-- `HVBYTE` with the parity of the port as a number (R160). -/
theorem hvByte_eq (hv : BitVec 16) (p : Port) :
    hvByte hv p = if p.toNat % 2 = 1 then hv.extractLsb' 0 8 else hv.extractLsb' 8 8 := by
  simp [hvByte, BitVec.getLsbD, Nat.testBit_zero]

theorem running_callHv (hrun : RunningAt s c) (sampled : Nat → Int) (p : Port) :
    running s (fun cycle => callHv s (sampled cycle) p) = .next { s with
      calls := s.calls ++ [.vidHv (sampled c)]
      ext := Config.extAfter s.seen (.vidHv (sampled c))
      ret := some (if p.toNat % 2 = 1 then (Config.hvAnswer s.seen (sampled c)).extractLsb' 0 8
        else (Config.hvAnswer s.seen (sampled c)).extractLsb' 8 8) } := by
  rw [← hvByte_eq]
  exact running_of_runningAt s c _ hrun

end

end Sys2Proof.Machine

open Sys2Proof Sys2Proof.Machine

/-- Settles O10: the decoder answers what the session's table selects, and a table offers its own
operations and those shared with it. -/
theorem variantIsolation : Obligations.VariantIsolation := by
  intro c w i hdec
  have hoffered : offeredIn c.cfg.variant i = true := by
    rw [eq_select_of_decode_ok c w i hdec]
    exact offeredIn_select c (transactionOf w)
  obtain ⟨hown, hshared⟩ := (Bool.and_eq_true _ _).mp hoffered
  refine ⟨fun v hv => ?_, ?_, ?_, ?_, ?_⟩
  · rw [hv] at hown
    exact (beq_iff_eq.mp hown).symm
  · rintro p rfl
    exact bne_iff_ne.mp hshared
  · rintro p d rfl
    exact bne_iff_ne.mp hshared
  · rintro p d rfl
    exact bne_iff_ne.mp hshared
  · rintro p rfl
    exact ((Bool.and_eq_true _ _).mp hshared).imp bne_iff_ne.mp bne_iff_ne.mp

/-- Settles O29: the bucket is shared by all five tables, and each side makes one call. -/
theorem videoDataPort : Obligations.VideoDataPort := by
  intro s c p d w
  refine ⟨fun hspare hcode h => ?_, fun hspare hcode h => ?_, fun hrun => ⟨?_, ?_⟩⟩
  · rw [decode_portRead hspare hcode (extractLsb'_of_and_eq h 16 2 (by decide)),
      selectPortRead_of_vdata ((and_C1_eq_80_iff _).mp (port_and_of_and_eq h))]
  · rw [decode_portWrite hspare hcode (extractLsb'_of_and_eq h 16 2 (by decide)),
      selectPortWrite_of_vdata _ ((and_C1_eq_80_iff _).mp (port_and_of_and_eq h))]
  · exact running_callRead hrun fun _ => .vidDataRead
  · exact running_callWrite hrun fun _ => .vidDataWrite d

/-- Settles O30: the codes 0 to 3 name the four tables that share the bucket. -/
theorem videoControlPort : Obligations.VideoControlPort := by
  intro s c p d w
  refine ⟨fun hspare hcode hle h => ?_, fun hspare hcode hle h => ?_, fun hrun => ⟨?_, ?_⟩⟩
  · rw [decode_portRead hspare hcode (extractLsb'_of_and_eq h 16 2 (by decide)),
      selectPortRead_of_vctrl ((and_C1_eq_81_iff _).mp (port_and_of_and_eq h))
        (ne_firstGen_of_code hcode hle)]
  · rw [decode_portWrite hspare hcode (extractLsb'_of_and_eq h 16 2 (by decide)),
      selectPortWrite_of_vctrl _ ((and_C1_eq_81_iff _).mp (port_and_of_and_eq h))
        (ne_firstGen_of_code hcode hle)]
  · exact running_callRead hrun fun _ => .vidCtrlRead
  · exact running_callWrite hrun fun _ => .vidCtrlWrite d

/-- Settles O32: bucket B40 of the four tables, and one call that sees CCYC as it is. -/
theorem soundGeneratorWrite : Obligations.SoundGeneratorWrite := by
  intro s c p d
  refine ⟨fun hp hne => ?_, fun hrun => running_callWrite hrun fun cycle => .sgenWrite cycle d⟩
  exact selects_portWrite (selectPortWrite_of_b40 d ((and_C0_eq_40_iff p).mp hp) hne)

/-- Settles O34: bucket B40 by variant; the two operations differ in the sampled cycle only. -/
theorem hvCounterRead : Obligations.HvCounterRead := by
  intro s c p
  refine ⟨fun hp hv => ?_, fun hp hne0 hne4 => ?_, fun hrun => ⟨?_, ?_⟩⟩
  · exact selects_portRead (selectPortRead_of_b40_of_primary ((and_C0_eq_40_iff p).mp hp) hv)
  · exact selects_portRead (selectPortRead_of_b40 ((and_C0_eq_40_iff p).mp hp) hne0 hne4)
  · exact running_callHv hrun (fun cycle => cycle) p
  · exact running_callHv hrun (fun cycle => cycle - 15) p

/-- Settles O35: the four operations are `PER.write` with their own offset. -/
theorem peripheralControllerWrites : Obligations.PeripheralControllerWrites := by
  intro s c p d hrun i ofs hi
  have hexec : exec i s = .next (callPerWrite s p d ofs) := by
    obtain ⟨rfl, rfl⟩ | ⟨rfl, rfl⟩ | ⟨rfl, rfl⟩ | ⟨rfl, rfl⟩ := hi <;>
      exact running_of_runningAt s c _ hrun
  rw [hexec, callPerWrite_eq, parity]

/-- Settles O39: the four operations are one call. -/
theorem fmChipReads : Obligations.FmChipReads := by
  intro s c p hrun i hi
  obtain rfl | rfl | rfl | rfl := hi <;> exact running_callRead hrun fun cycle => .fmRead cycle (fmReg p)

/-- Settles O40: the three operations are one call. -/
theorem fmChipPlainWrites : Obligations.FmChipPlainWrites := by
  intro s c p d hrun i hi
  obtain rfl | rfl | rfl := hi <;> exact running_callWrite hrun fun cycle => .fmWrite cycle (fmReg p) d

end

section
/-! PROOFS. The port table of HandheldMode (44_port_handheld.md R190 to R198). A word with the masked bits of
R190 or R191 names this table by its own `V`; below port 0x07 the table chooses by the selected hardware, at
ports 0x3E and 0x3F it does not, and each operation ends in one call or in `UPR`, which does not float here. -/

namespace Sys2Proof

/-- A masked word of `v`'s table carries the session's code when the session is of variant `v` (R81). -/
theorem fieldV_of_and_eq {c : Ctx} {v : Variant} {w mask pattern : TxnWord} (hv : c.cfg.variant = v)
    (h : w &&& mask = pattern) (hmask : mask.extractLsb' 18 3 = BitVec.allOnes 3)
    (hcode : pattern.extractLsb' 18 3 = variantCode v) : fieldV w = variantCode c.cfg.variant := by
  rw [hv, ← hcode]
  exact extractLsb'_of_and_eq h 18 3 hmask

/-! ### Bucket B00 of HandheldMode (R198) -/

section Handheld
variable {c : Ctx} {p : Port} (d : Byte)

theorem bucket_of_lt_seven (hp : p.toNat < 0x07) : bucket p = .b00 := by
  rw [bucket_eq, if_pos (by omega)]

/-- The pair is tested before the hardware (R192). -/
theorem selectPortRead_of_pair (hv : c.cfg.variant = .handheld) (hp : p = 0x3E#8 ∨ p = 0x3F#8) :
    selectPortRead c p = .pr1Per3E p := by
  simp only [selectPortRead, hv, handheldRead, bucket_of_pair hp, if_pos hp]

theorem selectPortWrite_of_pair (hv : c.cfg.variant = .handheld) (hp : p = 0x3E#8 ∨ p = 0x3F#8) :
    selectPortWrite c p d = .pw1Per3E p d := by
  simp only [selectPortWrite, hv, handheldWrite, bucket_of_pair hp, if_pos hp]

/-- The chip's ports: the chip's or unused, by the selected hardware (R190, R194). -/
theorem selectPortRead_of_lt_seven (hv : c.cfg.variant = .handheld) (hp : p.toNat < 0x07) :
    selectPortRead c p = if c.cfg.handheldHwSelected then .pr1Hio p else .pr1B00 p := by
  have hpair : ¬ (p = 0x3E#8 ∨ p = 0x3F#8) := not_or.mpr (ne_pair_of_lt hp)
  simp only [selectPortRead, hv, handheldRead, bucket_of_lt_seven hp, if_neg hpair, hp, true_and]

/-- R191, R195. -/
theorem selectPortWrite_of_lt_seven (hv : c.cfg.variant = .handheld) (hp : p.toNat < 0x07) :
    selectPortWrite c p d = if c.cfg.handheldHwSelected then .pw1Hio p d else .pw1B00 p d := by
  have hpair : ¬ (p = 0x3E#8 ∨ p = 0x3F#8) := not_or.mpr (ne_pair_of_lt hp)
  simp only [selectPortWrite, hv, handheldWrite, bucket_of_lt_seven hp, if_neg hpair, hp, true_and]

end Handheld

end Sys2Proof

namespace Sys2Proof.Machine

section
variable {s : State} {c : Nat}

/-- Only StandardConsoleMode and LegacyConsoleMode have an open bus (R265, D28). -/
theorem unusedPortRead_of_variant_ne (hne2 : s.cfg.variant ≠ .standard) (hne3 : s.cfg.variant ≠ .legacy) :
    unusedPortRead s = s.setRet (some 0xFF#8) :=
  unusedPortRead_of_not_floats fun hfloat => ((floats_iff _).mp hfloat).1.elim hne2 hne3

/-- The read of the pair, by the parameter (R192, D23). -/
theorem exec_pr1Per3E (hrun : RunningAt s c) (p : Port) :
    exec (.pr1Per3E p) s = .next (if s.prm.handheld3E3FRead = .peripheral
      then callRead s (.perRead (parity p)) else unusedPortRead s) := by
  have hexec : exec (.pr1Per3E p) s = _ := running_of_runningAt s c _ hrun
  rw [hexec]
  cases s.prm.handheld3E3FRead <;> rfl

end

end Sys2Proof.Machine

open Sys2Proof Sys2Proof.Machine

/-- Settles O37: the table tests the pair before the hardware, and the parameter decides the read. -/
theorem handheldPairRead : Obligations.HandheldPairRead := by
  intro s c p d hv
  refine ⟨fun hp => ⟨?_, ?_⟩, fun hrun hpar => ?_, fun hrun hpar => ?_⟩
  · exact selects_portRead (selectPortRead_of_pair hv hp)
  · exact selects_portWrite (selectPortWrite_of_pair d hv hp)
  · rw [exec_pr1Per3E hrun, if_pos hpar, callRead_eq, parity]
  · rw [exec_pr1Per3E hrun, if_neg (by simp [hpar]),
      unusedPortRead_of_variant_ne (by simp [hv]) (by simp [hv])]
    rfl

/-- Settles O38: the mask fixes `V`, the space and the direction; below port 0x07 the table asks only for the
hardware, and each side of the chip is one call. -/
theorem handheldIoChip : Obligations.HandheldIoChip := by
  intro s c p d w
  refine ⟨fun hspare hv h hp => ?_, fun hspare hv h hp => ?_, fun hrun => ⟨?_, ?_⟩⟩
  · rw [decode_portRead hspare (fieldV_of_and_eq hv h (by decide) (by decide))
        (extractLsb'_of_and_eq h 16 2 (by decide)), selectPortRead_of_lt_seven hv hp]
    rfl
  · rw [decode_portWrite hspare (fieldV_of_and_eq hv h (by decide) (by decide))
        (extractLsb'_of_and_eq h 16 2 (by decide)), selectPortWrite_of_lt_seven _ hv hp]
    rfl
  · exact running_callRead hrun fun _ => .hioRead p
  · exact running_callWrite hrun fun _ => .hioWrite p d

end

section
/-! PROOFS. The port table of StandardConsoleMode (45_port_standard.md R204 to R218). Its default bucket is a
decision list (R208) of three parts, by the FM flag and territory T; each part is stated as the equation that
is left of the list there. The audio-control write is the mute call of R163 followed by an FM write. -/

namespace Sys2Proof

/-! ### The parts of the decision list (R208) -/

section StandardDefault
variable {c : Ctx} (p : Port) (d : Byte)

theorem standardDefaultRead_of_fm_clear (hfm : c.cfg.fmEnabled = false) :
    standardDefaultRead c p = .pr2Def p := if_pos hfm

theorem standardDefaultWrite_of_fm_clear (hfm : c.cfg.fmEnabled = false) :
    standardDefaultWrite c p d = .pw2Def p d := if_pos hfm

/-- Territory T: no read at the audio-control port (D40). -/
theorem standardDefaultRead_of_regionIsT (hfm : c.cfg.fmEnabled = true) (hT : c.cfg.regionIsT = true) :
    standardDefaultRead c p =
      if p = c.prm.audioctlPort then .pr2Def p
      else if p ∈ c.prm.tFmPorts then .pr2Tfm p
      else .pr2Def p := by
  simp only [standardDefaultRead, hfm, hT, Bool.true_eq_false, if_false, if_true]

theorem standardDefaultWrite_of_regionIsT (hfm : c.cfg.fmEnabled = true) (hT : c.cfg.regionIsT = true) :
    standardDefaultWrite c p d =
      if p = c.prm.audioctlPort then .pw2Actl p d
      else if p ∈ c.prm.tFmPorts then .pw2Tfm p d
      else .pw2Def p d := by
  simp only [standardDefaultWrite, hfm, hT, Bool.true_eq_false, if_false, if_true]

/-- Elsewhere: the FM board by the gate bit of the port, then the read that SSR allows. -/
theorem standardDefaultRead_of_not_regionIsT (hfm : c.cfg.fmEnabled = true)
    (hT : c.cfg.regionIsT = false) :
    standardDefaultRead c p =
      if p.getLsbD c.prm.stdFmGateBit = false then .pr2Xfm p
      else if c.ssr.getLsbD c.prm.ssrGateBit = c.prm.ssrGateAllow then .pr2Perg p
      else .pr2Def p := by
  simp only [standardDefaultRead, hfm, hT, Bool.true_eq_false, Bool.false_eq_true, if_false]

theorem standardDefaultWrite_of_not_regionIsT (hfm : c.cfg.fmEnabled = true)
    (hT : c.cfg.regionIsT = false) :
    standardDefaultWrite c p d =
      if p.getLsbD c.prm.stdFmGateBit = false then .pw2Xfm p d else .pw2Def p d := by
  simp only [standardDefaultWrite, hfm, hT, Bool.true_eq_false, Bool.false_eq_true, if_false]

end StandardDefault

end Sys2Proof

namespace Sys2Proof.Machine

section
variable {s : State} {c : Nat} {p : Port} {d : Byte} {i : Instr}

/-- In the default bucket StandardConsoleMode asks the decision list (R204). -/
theorem selects_standardDefaultRead (hv : s.cfg.variant = .standard) (hb : bucket p = .dflt)
    (h : standardDefaultRead s.ctx p = i) : Selects s (portRead p) i := by
  have hctx : s.ctx.cfg.variant = .standard := hv
  exact selects_portRead (by simpa only [selectPortRead, hctx, standardRead, hb] using h)

theorem selects_standardDefaultWrite (hv : s.cfg.variant = .standard) (hb : bucket p = .dflt)
    (h : standardDefaultWrite s.ctx p d = i) : Selects s (portWrite p d) i := by
  have hctx : s.ctx.cfg.variant = .standard := hv
  exact selects_portWrite (by simpa only [selectPortWrite, hctx, standardWrite, hb] using h)

/-! ### The audio-control write (R211) -/

/-- Bit 1 of `D + 1`, by `D mod 4`; the wrap at 8 bits does not reach it. -/
theorem audioControlBit_eq_true_iff (d : Byte) :
    audioControlBit d = true ↔ d.toNat % 4 = 1 ∨ d.toNat % 4 = 2 := by
  rw [audioControlBit, BitVec.getLsbD, BitVec.toNat_add, Nat.testBit_eq_decide_div_mod_eq,
    decide_eq_true_iff, BitVec.toNat_ofNat]
  omega

theorem muteCall_audioControlBit (s : State) (cycle : Nat) (d : Byte) :
    muteCall s cycle (audioControlBit d) = .sgenConfig cycle s.cfg.amplifierLevel
      (if d.toNat % 4 = 1 ∨ d.toNat % 4 = 2 then 0x00#8 else s.prm.muteOnMask) := by
  simp only [muteCall, muteMask, audioControlBit_eq_true_iff]

/-- A call recorded after another, in a write transaction. -/
theorem callWrite_record (s : State) (first second : Call) :
    callWrite (s.record first) second = { s with
      calls := s.calls ++ [first, second]
      ext := Config.extAfter (s.record first).seen second
      ret := none } := by
  simp [callWrite, State.record, State.noteCall, State.setRet]

theorem exec_pw2Actl (hrun : RunningAt s c) (p : Port) (d : Byte) :
    exec (.pw2Actl p d) s = .next
      ((callWrite (s.record (muteCall s c (audioControlBit d))) (.fmWrite c 2#2 d)).setSsr d) :=
  running_of_runningAt s c _ hrun

end

end Sys2Proof.Machine

open Sys2Proof Sys2Proof.Machine

/-- Settles O41: the second test of the decision list, then two calls and the latch of SSR. -/
theorem audioControlWrite : Obligations.AudioControlWrite := by
  intro s c p d
  refine ⟨fun hadm hv hfm hT hp => ?_, fun hrun => ⟨_, rfl, ?_⟩⟩
  · have hb : bucket p = .dflt := hp ▸ bucket_audioctlPort hadm
    refine selects_standardDefaultWrite hv hb ?_
    rw [standardDefaultWrite_of_regionIsT p d hfm hT]
    exact if_pos hp
  · rw [exec_pw2Actl hrun, callWrite_record, muteCall_audioControlBit]
    rfl

/-- Settles O43, part by part of the decision list; the FM ports of territory T exclude the audio-control
port. -/
theorem standardDefaultBucket : Obligations.StandardDefaultBucket := by
  intro s p d hadm hv hmask
  have hb : bucket p = .dflt := (and_C0_eq_C0_iff p).mp hmask
  have hread : ∀ {i}, standardDefaultRead s.ctx p = i → Selects s (portRead p) i :=
    selects_standardDefaultRead hv hb
  have hwrite : ∀ {i}, standardDefaultWrite s.ctx p d = i → Selects s (portWrite p d) i :=
    selects_standardDefaultWrite hv hb
  refine ⟨fun hfm => ?_, fun hfm hT => ?_, fun hfm hT => ?_⟩
  · exact ⟨hread (standardDefaultRead_of_fm_clear p hfm), hwrite (standardDefaultWrite_of_fm_clear p d hfm)⟩
  · have hr := standardDefaultRead_of_regionIsT (c := s.ctx) p hfm hT
    have hw := standardDefaultWrite_of_regionIsT (c := s.ctx) p d hfm hT
    refine ⟨fun hp => ?audio, fun hmem => ?fm, fun hne hnmem => ?rest⟩
    case audio => exact ⟨hread (hr.trans (if_pos hp)), hwrite (hw.trans (if_pos hp))⟩
    case fm =>
      have hne := ne_audioctlPort_of_mem hadm hmem
      exact ⟨hread (hr.trans ((if_neg hne).trans (if_pos hmem))),
        hwrite (hw.trans ((if_neg hne).trans (if_pos hmem)))⟩
    case rest =>
      exact ⟨hread (hr.trans ((if_neg hne).trans (if_neg hnmem))),
        hwrite (hw.trans ((if_neg hne).trans (if_neg hnmem)))⟩
  · have hr := standardDefaultRead_of_not_regionIsT (c := s.ctx) p hfm hT
    have hw := standardDefaultWrite_of_not_regionIsT (c := s.ctx) p d hfm hT
    refine ⟨fun hclear => ?clear, fun hset => ?set⟩
    case clear => exact ⟨hread (hr.trans (if_pos hclear)), hwrite (hw.trans (if_pos hclear))⟩
    case set =>
      have hgate : ¬ p.getLsbD s.prm.stdFmGateBit = false := ne_false_of_eq_true hset
      exact ⟨hwrite (hw.trans (if_neg hgate)),
        fun hallow => hread (hr.trans ((if_neg hgate).trans (if_pos hallow))),
        fun hdeny => hread (hr.trans ((if_neg hgate).trans (if_neg hdeny)))⟩

/-- Settles O36: the three operations are one call. -/
theorem peripheralControllerReads : Obligations.PeripheralControllerReads := by
  intro s c p hrun i hi
  obtain rfl | rfl | rfl := hi <;> exact running_callRead hrun fun _ => .perRead (parity p)

end

section
/-! PROOFS. The port table of LegacyConsoleMode (46_port_legacy.md R230 to R239). With the FM flag set its
default bucket is divided by the gate bit of the port. The FM write is an FM call, then the mute call of R163
if the port's second gate bit is set. -/

namespace Sys2Proof

/-- In the default bucket with the FM flag set, the gate bit chooses (R233). -/
theorem selectPortWrite_of_legacy_dflt {c : Ctx} {p : Port} (d : Byte) (hv : c.cfg.variant = .legacy)
    (hb : bucket p = .dflt) (hfm : c.cfg.fmEnabled = true) :
    selectPortWrite c p d = if p.getLsbD c.prm.legFmGateBit = false then .pw3Fm p d else .pw3Def p d := by
  simp only [selectPortWrite, hv, legacyWrite, hb, hfm, if_true]

end Sys2Proof

namespace Sys2Proof.Machine

section
variable {s : State} {c : Nat} {p : Port}

/-! ### The FM write and its mute call (R235) -/

theorem muteCall_legacyMuteBit (s : State) (cycle : Nat) (d : Byte) :
    muteCall s cycle (legacyMuteBit d) = .sgenConfig cycle s.cfg.amplifierLevel
      (if d.toNat % 2 = 1 then 0x00#8 else s.prm.muteOnMask) := by
  simp [muteCall, muteMask, legacyMuteBit, BitVec.getLsbD, Nat.testBit_zero]

/-- The answer byte is cleared before or after the second call alike: no call sees it. -/
theorem record_callWrite (s : State) (first second : Call) :
    (callWrite s first).record second = callWrite (s.record first) second := rfl

theorem exec_pw3Fm_of_mute_clear (hrun : RunningAt s c) (d : Byte)
    (hmute : p.getLsbD s.prm.legMuteBit = false) :
    exec (.pw3Fm p d) s = .next (callWrite s (.fmWrite c (fmReg p) d)) :=
  (running_of_runningAt s c _ hrun).trans (congrArg _ (if_neg (ne_true_of_eq_false hmute)))

theorem exec_pw3Fm_of_mute_set (hrun : RunningAt s c) (d : Byte)
    (hmute : p.getLsbD s.prm.legMuteBit = true) :
    exec (.pw3Fm p d) s = .next
      (callWrite (s.record (.fmWrite c (fmReg p) d)) (muteCall s c (legacyMuteBit d))) := by
  rw [← record_callWrite]
  exact (running_of_runningAt s c _ hrun).trans (congrArg _ (if_pos hmute))

end

end Sys2Proof.Machine

open Sys2Proof Sys2Proof.Machine

/-- Settles O42: the gate bit selects the operation; the mute bit decides between one call and two. -/
theorem legacyFmWrite : Obligations.LegacyFmWrite := by
  intro s c p d
  refine ⟨fun hv hfm hmask hgate => ?_, fun hrun hclear => ?_, fun hrun hset => ⟨_, rfl, ?_⟩⟩
  · refine selects_portWrite ?_
    rw [selectPortWrite_of_legacy_dflt d hv ((and_C0_eq_C0_iff p).mp hmask) hfm]
    exact if_pos hgate
  · rw [exec_pw3Fm_of_mute_clear hrun d hclear, callWrite_eq, fmReg]
  · rw [exec_pw3Fm_of_mute_set hrun d hset, callWrite_record, muteCall_legacyMuteBit, fmReg]

end

section
/-! PROOFS. The port table of FirstGenMode (47_port_firstgen.md R246 to R253). The bucket of a port settles
its operation. The sound write is the shared write call with the CCYC of entry, and its stall is added after. -/

namespace Sys2Proof

/-! ### The buckets with operations of this table's own (R247, R252, R253) -/

section FirstGen
variable {c : Ctx} {p : Port} (hv : c.cfg.variant = .firstGen)
include hv

theorem selectPortRead_of_firstGen_vctrl (hb : bucket p = .vctrl) : selectPortRead c p = .pr4Vctrl p := by
  simp only [selectPortRead, hv, firstGenRead, hb]

theorem selectPortWrite_of_firstGen_vctrl (d : Byte) (hb : bucket p = .vctrl) :
    selectPortWrite c p d = .pw4Vctrl p d := by
  simp only [selectPortWrite, hv, firstGenWrite, hb]

theorem selectPortWrite_of_firstGen_b40 (d : Byte) (hb : bucket p = .b40) :
    selectPortWrite c p d = .pw4Sgen p d := by
  simp only [selectPortWrite, hv, firstGenWrite, hb]

end FirstGen

end Sys2Proof

namespace Sys2Proof.Machine

/-! ### The sound write and its stall (R247) -/

section
variable {s : State} {c : Nat}

theorem addCycles_of_runningAt (hrun : RunningAt s c) (n : Nat) :
    addCycles n s = s.setCcyc (.num (c + n)) := by
  rw [addCycles, show s.ccyc = .num c from hrun]

/-- A write call leaves CCYC to its caller. -/
theorem runningAt_callWrite (hrun : RunningAt s c) (call : Call) : RunningAt (callWrite s call) c := hrun

theorem exec_pw4Sgen (hrun : RunningAt s c) (p : Port) (d : Byte) :
    exec (.pw4Sgen p d) s = .next ((callWrite s (.sgenWrite c d)).setCcyc (.num (c + 480))) := by
  rw [← addCycles_of_runningAt (runningAt_callWrite hrun _)]
  exact running_of_runningAt s c _ hrun

end

end Sys2Proof.Machine

open Sys2Proof Sys2Proof.Machine

/-- Settles O31: the bucket of the odd ports is the older control port, and each side makes one call. -/
theorem firstGenVideoControlPort : Obligations.FirstGenVideoControlPort := by
  intro s c p d
  refine ⟨fun hp hv => ⟨?_, ?_⟩, fun hrun => ⟨?_, ?_⟩⟩
  · exact selects_portRead (selectPortRead_of_firstGen_vctrl hv ((and_C1_eq_81_iff p).mp hp))
  · exact selects_portWrite (selectPortWrite_of_firstGen_vctrl hv d ((and_C1_eq_81_iff p).mp hp))
  · exact running_callRead hrun fun _ => .vidCtrlReadOld
  · exact running_callWrite hrun fun _ => .vidCtrlWriteOld d

/-- Settles O33: bucket B40 of this table; the call sees the CCYC of entry, and the stall follows it. -/
theorem firstGenSoundWriteStalls480 : Obligations.FirstGenSoundWriteStalls480 := by
  intro s c p d
  refine ⟨fun hp hv => ?_, fun hrun => ?_⟩
  · exact selects_portWrite (selectPortWrite_of_firstGen_b40 hv d ((and_C0_eq_40_iff p).mp hp))
  · rw [exec_pw4Sgen hrun, callWrite_eq, State.setCcyc]

end

section
/-! PROOFS. The fault handlers (48_fault_handlers.md R260 to R269): the unused ones touch `ret` only, a lockup
is a state of its own kind that a second one leaves alone, and a transaction reaches it through a BankTable
entry only. Reads and writes through an entry halt alike, so the four operations that cross onto the shared
bus are read off `entryRead` and `entryWrite`; every other operation of a running block leaves it running. -/

namespace Sys2Proof.Machine

/-! ### Lockup (R263, R264, R269) -/

section Lockup
variable {s : State}

theorem lockup_of_override (h : s.cfg.forceNoLockup = true) : lockup s = s := if_pos h

theorem lockupRead_of_override (h : s.cfg.forceNoLockup = true) :
    lockupRead s = s.setRet (some 0xFF#8) := by
  rw [lockupRead, lockup_of_override h]

theorem lockupWrite_of_override (h : s.cfg.forceNoLockup = true) : lockupWrite s = s.setRet none := by
  rw [lockupWrite, lockup_of_override h]

theorem lockup_of_no_override (h : s.cfg.forceNoLockup = false) :
    lockup s = (s.setCcyc .never).setRun (clearEnable s.run) :=
  if_neg (ne_true_of_eq_false h)

theorem halted_lockup (h : s.cfg.forceNoLockup = false) : Halted (lockup s) := by
  rw [lockup_of_no_override h]; rfl

theorem testBit_zero_run_lockup (h : s.cfg.forceNoLockup = false) : (lockup s).run.testBit 0 = false := by
  rw [lockup_of_no_override h, State.run_setRun, clearEnable_testBit]
  simp

variable (s)

theorem lockupRead_lockupRead : lockupRead (lockupRead s) = lockupRead s := by
  cases h : s.cfg.forceNoLockup <;> simp [lockupRead_eq, h]

theorem lockupWrite_lockupWrite : lockupWrite (lockupWrite s) = lockupWrite s := by
  cases h : s.cfg.forceNoLockup <;> simp [lockupWrite_eq, h]

end Lockup

/-! ### What halts a running block (R260) -/

section Halts
variable {s t : State} {c : Nat}

theorem not_halted_of_runningAt (hrun : RunningAt s c) : ¬ Halted s := fun hhalt =>
  Cycle.noConfusion (hrun.symm.trans hhalt)

theorem halted_lockup_iff (hrun : RunningAt s c) : Halted (lockup s) ↔ s.cfg.forceNoLockup = false := by
  refine ⟨fun hhalt => Bool.eq_false_iff.mpr fun hoverride => ?_, halted_lockup⟩
  rw [lockup_of_override hoverride] at hhalt
  exact not_halted_of_runningAt hrun hhalt

/-- Of the entries only `Delegate(HLockup)` halts, and only without the override. -/
theorem halted_entryRead_iff (hrun : RunningAt s c) (e : BtEntry) (ea : PAddr) :
    Halted (entryRead e ea s) ↔ e = .delegate .lockup ∧ s.cfg.forceNoLockup = false := by
  match e with
  | .delegate .lockup => exact (halted_lockup_iff hrun).trans (and_iff_right rfl).symm
  | .direct _ | .delegate .unused | .delegate .video | .delegate (.ext _) =>
    exact iff_of_false (not_halted_of_runningAt hrun) (by simp)

theorem halted_entryWrite_iff (hrun : RunningAt s c) (e : BtEntry) (ea : PAddr) (v : Byte) :
    Halted (entryWrite e ea v s) ↔ e = .delegate .lockup ∧ s.cfg.forceNoLockup = false := by
  match e with
  | .delegate .lockup => exact (halted_lockup_iff hrun).trans (and_iff_right rfl).symm
  | .direct _ | .delegate .unused | .delegate .video | .delegate (.ext _) =>
    exact iff_of_false (not_halted_of_runningAt hrun) (by simp)

theorem runningAt_arb (hrun : RunningAt s c) : RunningAt (arb c s) (arbEnd s c) := by
  rw [arb_eq_arbResult s c hrun]
  exact runningAt_arbResult s c

/-- `ARB` leaves the block running and the override as it was, so the entry alone decides. -/
theorem halted_entryRead_arb_iff (hrun : RunningAt s c) (e : BtEntry) (ea : PAddr) :
    Halted (entryRead e ea (arb c s)) ↔ some e = some (.delegate .lockup) ∧ s.cfg.forceNoLockup = false := by
  rw [halted_entryRead_iff (runningAt_arb hrun), (evolves_arb s hrun).cfg, Option.some_inj]

theorem halted_entryWrite_arb_iff (hrun : RunningAt s c) (e : BtEntry) (ea : PAddr) (v : Byte) :
    Halted (entryWrite e ea v (arb c s)) ↔
      some e = some (.delegate .lockup) ∧ s.cfg.forceNoLockup = false := by
  rw [halted_entryWrite_iff (runningAt_arb hrun), (evolves_arb s hrun).cfg, Option.some_inj]

variable {i : Instr}

theorem halted_iff_of_crossesSharedBus (hbus : crossesSharedBus i = true) (h : exec i s = .next t) :
    Halted t ↔ reachedEntry s i = some (.delegate .lockup) ∧ s.cfg.forceNoLockup = false := by
  cases i with
  | mrVid a =>
    obtain ⟨c, d, hrun, hvid, rfl⟩ := execMrVid_next h
    rw [reachedEntry, ← videoEntry, hvid]
    exact halted_entryRead_arb_iff hrun (.delegate d) _
  | mwVid a v =>
    obtain ⟨c, d, hrun, hvid, rfl⟩ := execMwVid_next h
    rw [reachedEntry, ← videoEntry, hvid]
    exact halted_entryWrite_arb_iff hrun (.delegate d) _ v
  | mrBank a =>
    obtain ⟨c, hrun, rfl⟩ := running_next s t _ h
    exact halted_entryRead_arb_iff hrun (bankedEntry s a) _
  | mwBank a d =>
    obtain ⟨c, hrun, rfl⟩ := running_next s t _ h
    exact halted_entryWrite_arb_iff hrun (bankedEntry s a) _ d
  | _ => cases hbus

theorem reachedEntry_eq_none (hbus : crossesSharedBus i = false) : reachedEntry s i = none := by
  fun_cases reachedEntry s i
  case case5 => rfl
  all_goals cases hbus

/-- Every other operation of a transaction keeps CCYC, or adds a stall to it. -/
theorem not_halted_of_not_crossesSharedBus (hrun : RunningAt s c) (htxn : transactionFor i ≠ none)
    (hbus : crossesSharedBus i = false) (h : exec i s = .next t) : ¬ Halted t := by
  by_cases hsgen : ∃ p d, i = .pw4Sgen p d
  · obtain ⟨p, d, rfl⟩ := hsgen
    rw [exec_pw4Sgen hrun] at h
    cases h
    exact not_halted_of_runningAt rfl
  · push Not at hsgen
    exact not_halted_of_runningAt ((keepsCounters_of_exec_next htxn hbus hsgen h).ccyc.trans hrun)

end Halts

end Sys2Proof.Machine

open Sys2Proof Sys2Proof.Machine

/-- Settles O54: an operation that crosses onto the shared bus halts by the entry it reaches; the others reach
none and leave the block running. -/
theorem onlyALockupEntryHalts : Obligations.OnlyALockupEntryHalts := by
  intro s t w rest i c hin hdec hrun hstep
  rw [step_txn_of_decode_ok s w rest i hin hdec] at hstep
  cases hbus : crossesSharedBus i with
  | true => exact halted_iff_of_crossesSharedBus (s := s.setInbox rest) hbus hstep
  | false =>
    have htxn := transactionFor_ne_none_of_decode_ok hdec
    refine iff_of_false ?_ (by simp [reachedEntry_eq_none hbus])
    exact not_halted_of_not_crossesSharedBus (s := s.setInbox rest) hrun htxn hbus hstep

/-- Settles O49: the first lockup halts, and the handler is idempotent. -/
theorem lockupIdempotence : Obligations.LockupIdempotence := by
  intro s ea ea' d d' hoverride
  have hhalt := halted_lockup hoverride
  have hbit := testBit_zero_run_lockup hoverride
  exact ⟨⟨_, rfl, hhalt, hbit, congrArg Host.Outcome.next (lockupRead_lockupRead s)⟩,
    ⟨_, rfl, hhalt, hbit, congrArg Host.Outcome.next (lockupWrite_lockupWrite s)⟩⟩

/-- Settles O48: both handlers answer the state of `lockup`, of which the override decides. -/
theorem lockupHandlers : Obligations.LockupHandlers := by
  intro s ea d
  refine ⟨fun hoverride => ⟨lockup s, rfl, rfl, ?_, testBit_zero_run_lockup hoverride, fun j hj => ?_⟩,
    fun hoverride => ?_⟩
  · rw [lockup_of_no_override hoverride]; rfl
  · simp [lockup_of_no_override hoverride, clearEnable_testBit, hj]
  · exact ⟨congrArg Host.Outcome.next (lockupRead_of_override hoverride),
      congrArg Host.Outcome.next (lockupWrite_of_override hoverride)⟩

/-- Settles O47: the three handlers have no condition and write `ret` only. -/
theorem unusedHandlers : Obligations.UnusedHandlers := by
  intro s ea p d
  exact ⟨rfl, rfl, rfl⟩

/-- Settles O44: each of the nine ends in `UPW`. -/
theorem unusedPortWrites : Obligations.UnusedPortWrites := by
  intro s c p d hrun i hi
  obtain rfl | rfl | rfl | rfl | rfl | rfl | rfl | rfl | rfl := hi <;>
    exact running_of_runningAt s c (fun _ => unusedPortWrite s) hrun

/-- Settles O45: each of the six ends in `UPR`, which floats in StandardConsoleMode and LegacyConsoleMode
only. -/
theorem unusedPortReadsReturnFF : Obligations.UnusedPortReadsReturnFF := by
  intro s c p hrun hne2 hne3 i hi
  have hupr : running s (fun _ => unusedPortRead s) = .next (s.setRet (some 0xFF#8)) := by
    rw [running_of_runningAt s c _ hrun, unusedPortRead_of_variant_ne hne2 hne3]
  obtain rfl | rfl | rfl | rfl | rfl | rfl := hi <;> exact hupr

end

section
/-! PROOFS. Halt, external reset and the host between steps (60_exceptions.md R280 to R301,
70_reset_and_hazards.md R310 to R323). A halted block refuses every operation a word selects, so only a move of
the host goes on from it, and of the moves only an external reset writes a number into a halted CCYC. Duty H10
is read off `keepsDuties` as the rules write it. -/

namespace Sys2Proof.Machine

/-- Every operation of a transaction asks for a running block first (R287). -/
theorem exec_of_halted {s : State} {i : Instr} (hhalt : Halted s) (htxn : transactionFor i ≠ none) :
    exec i s = .refused .halted := by
  cases i with
  | umr | umw | lkr | lkw | upr | upw => exact absurd rfl htxn
  | mrVid | mwVid => exact whenRunning_of_halted s _ hhalt
  | _ => exact running_of_halted s _ hhalt

theorem step_of_inbox_nil {s : State} (hin : s.inbox = []) : step s = .next s := by
  simp only [step, hin]

/-! ### Duty H10 (R300, R323) -/

section Duties
variable {s : State}

theorem keepsDuties_remap_iff (index : Byte) (e : BtEntry) :
    keepsDuties (.remap index e) s = true ↔ ∀ buf, e = .direct buf → index ≠ s.prm.vidBtIndex := by
  cases e <;> simp [keepsDuties, isDelegate]

theorem keepsDuties_externalReset_iff (r : ResetChoice) :
    keepsDuties (.externalReset r) s = true ↔
      ∀ table, r.bt = some table → ∃ h, btEntry table s.prm.vidBtIndex = .delegate h := by
  cases hbt : r.bt <;> simp [keepsDuties, hbt, isDelegate_iff]

variable {m : HostMove} {rest : List Input} (hin : s.inbox = .move m :: rest)
include hin

theorem step_move_of_keepsDuties (hduty : keepsDuties m s = true) :
    step s = .next (hostMove m (s.setInbox rest)) := by
  simp [step, hin, hduty]

theorem step_move_of_not_keepsDuties (hduty : ¬ keepsDuties m s = true) :
    step s = .refused .hostBreaksDuty := by
  simp [step, hin, hduty]

end Duties

/-! ### What an external reset keeps (R298, R311) -/

section Reset
variable (s : State) {r : ResetChoice}

theorem ramByte_hostReset_of_none (h : r.redrawRam = none) (o : BitVec 13) :
    ramByte (hostReset r s) o = ramByte s o := by
  simp [ramByte, hostReset, h]

theorem ramByte_hostReset_of_some {n : Nat} (h : r.redrawRam = some n) (o : BitVec 13) :
    ramByte (hostReset r s) o = Config.ramDrawn n o.toNat := by
  simp [ramByte, hostReset, h, memRead]

theorem bufByte_hostReset_of_none (h : r.redrawBufs = none) (b : Nat) (o : BitVec 16) :
    bufByte (hostReset r s) b o = bufByte s b o := by
  simp [bufByte, hostReset, h]

theorem bufByte_hostReset_of_some {n : Nat} (h : r.redrawBufs = some n) (b : Nat) (o : BitVec 16) :
    bufByte (hostReset r s) b o = Config.bufDrawn n (bufKey b o) := by
  simp [bufByte, hostReset, h, memRead]

end Reset

/-! ### Nothing but an external reset ends a halt (R295, R301, R310) -/

section Halt
variable {s t : State}

theorem addCycles_of_halted (hhalt : Halted s) (n : Nat) : addCycles n s = s := by
  rw [addCycles, show s.ccyc = .never from hhalt]

theorem halted_hostFrame (hhalt : Halted s) (ccyc pcyc : Nat) (clear : Bool) :
    Halted (hostFrame ccyc pcyc clear s) := by
  simp [hostFrame, hhalt]

theorem runningAt_hostFrame {c : Nat} (hrun : RunningAt s c) (ccyc pcyc : Nat) (clear : Bool) :
    RunningAt (hostFrame ccyc pcyc clear s) ccyc := by
  simp [hostFrame, hrun]

theorem halted_hostMove {m : HostMove} (hhalt : Halted s) (hm : ∀ r, m ≠ .externalReset r) :
    Halted (hostMove m s) := by
  cases m with
  | externalReset r => exact absurd rfl (hm r)
  | advance dc dp =>
    rw [hostMove, hostAdvance, addCycles_of_halted hhalt]
    exact hhalt
  | frame ccyc pcyc clear => exact halted_hostFrame hhalt ccyc pcyc clear
  | setDma | setRun | pokeRam | pokeBuf | remap | setSsr | reconfig | outside => exact hhalt

end Halt

/-- The frame boundary clears the owed bit on demand and no other bit of RUN (R301, R312). -/
theorem testBit_run_hostFrame (s : State) (ccyc pcyc : Nat) (clear : Bool) (j : Nat) :
    (hostFrame ccyc pcyc clear s).run.testBit j =
      (s.run.testBit j && !(clear && decide (j = s.prm.owedBit))) := by
  cases clear <;> simp [hostFrame, clearOwed_testBit]

end Sys2Proof.Machine

open Sys2Proof Sys2Proof.Machine

/-- Settles O14: the word decodes to an operation that a halted block refuses. -/
theorem haltedBlockAcceptsNoTransaction : Obligations.HaltedBlockAcceptsNoTransaction := by
  intro s t rest hhalt hin
  have hdec := decode_wordOf s.ctx t
  rw [step_txn_of_decode_ok s _ rest _ hin hdec]
  exact exec_of_halted (s := s.setInbox rest) hhalt (transactionFor_ne_none_of_decode_ok hdec)

/-- Settles O59: the move is performed and its state read field by field; a step from a halt is no transaction,
and no other move touches the sentinel. -/
theorem externalResetEndsAHalt : Obligations.ExternalResetEndsAHalt := by
  intro s
  refine ⟨fun r rest hin hduty => ?reset, fun t hhalt hother hstep => ?other⟩
  case reset =>
    refine ⟨_, step_move_of_keepsDuties hin ((keepsDuties_externalReset_iff r).mpr hduty), rfl, rfl,
      beq_iff_eq.mp (bankAligned_bankOf r.bankHigh), rfl, rfl, rfl, ?_, ?_, ?_, ?_,
      ramByte_hostReset_of_none (s.setInbox rest), fun _ => ramByte_hostReset_of_some (s.setInbox rest),
      bufByte_hostReset_of_none (s.setInbox rest), fun _ => bufByte_hostReset_of_some (s.setInbox rest)⟩
    · exact fun hbt => congrArg (·.getD s.bt) hbt
    · exact fun table hbt => congrArg (·.getD s.bt) hbt
    · exact fun hssr => congrArg (·.getD s.ssr) hssr
    · exact fun v hssr => congrArg (·.getD s.ssr) hssr
  case other =>
    match hin : s.inbox with
    | [] =>
      rw [step_of_inbox_nil hin] at hstep
      cases hstep
      exact hhalt
    | .txn w :: rest =>
      obtain ⟨i, hdec, hexec⟩ := step_txn_next s t w rest hin hstep
      rw [exec_of_halted (s := s.setInbox rest) hhalt (transactionFor_ne_none_of_decode_ok hdec)] at hexec
      cases hexec
    | .move m :: rest =>
      obtain ⟨-, rfl⟩ := step_move_next hin hstep
      exact halted_hostMove (s := s.setInbox rest) hhalt fun r hm => hother r rest (hm ▸ hin)

/-- Settles O12: the duty of a move is H10 for the two moves that write the BankTable, and nothing for the
others. -/
theorem stepWithoutTransaction : Obligations.StepWithoutTransaction := by
  intro s
  refine ⟨step_of_inbox_nil, fun m rest hin hremap hreset => ?_, fun buf rest hin => ?_,
    fun r table buf rest hin hbt hdirect => ?_⟩
  · refine step_move_of_keepsDuties hin ?_
    cases m with
    | remap index e => exact (keepsDuties_remap_iff index e).mpr fun buf he => hremap index buf (he ▸ rfl)
    | externalReset r => exact (keepsDuties_externalReset_iff r).mpr fun table => hreset r table rfl
    | _ => rfl
  · exact step_move_of_not_keepsDuties hin fun hduty => (keepsDuties_remap_iff _ _).mp hduty buf rfl rfl
  · refine step_move_of_not_keepsDuties hin fun hduty => ?_
    obtain ⟨h, hdelegate⟩ := (keepsDuties_externalReset_iff r).mp hduty table hbt
    cases hdirect.symm.trans hdelegate

/-- Settles O60: neither move has a duty, and each is read off its own definition. -/
theorem frameBoundaryAndReconfiguration : Obligations.FrameBoundaryAndReconfiguration := by
  intro s rest
  refine ⟨fun x y clear hin => ?frame, fun fm amp hin => step_move_of_keepsDuties hin rfl⟩
  case frame =>
    exact ⟨_, step_move_of_keepsDuties hin rfl, rfl,
      fun hhalt => halted_hostFrame (s := s.setInbox rest) hhalt x y clear,
      fun c hrun => runningAt_hostFrame (s := s.setInbox rest) hrun x y clear,
      testBit_run_hostFrame (s.setInbox rest) x y clear⟩

end
